-- ==== Sys2Proof/Word.lean ====
section
/-! DEFINITION. The byte, and the plain arithmetic words of the manual's Conventions: clamping, saturation, wrapping. -/

namespace Sys2Proof

/-- One byte of a frame or of a store slot. -/
abbrev Byte := BitVec 8

/-- "To clamp a value to a range" (spec/00_scope.md, Clamping), for natural numbers. -/
def clampNat (lo hi x : Nat) : Nat := max lo (min x hi)

/-- "To clamp a value to a range" (spec/00_scope.md, Clamping), for signed numbers. -/
def clampInt (lo hi x : Int) : Int := max lo (min x hi)

/-- A 32-bit number that "returns to 0 after its maximum" (spec/00_scope.md, Saturation). -/
def wrap32 (n : Nat) : Nat := n % 4294967296

/-- Milliseconds as the model's microseconds. -/
def ms (n : Nat) : Nat := n * 1000

end Sys2Proof
end

