-- ==== Sys2Proof/Syntax.lean ====
section
/-! DEFINITION. The commands of the part: one constructor of `Instr` for each row of spec/opcode_table.json, with the
operands the rules of the row give it. -/

namespace Sys2Proof

/-- The three ports (spec/00_scope.md, The three ports). -/
inductive Port where
  | handle | head | dock
  deriving DecidableEq, Repr

/-- What every request frame carries beside its operation and payload (R161, R162). `fits` is whether the payload's
length fits the operation (the eighth check of R166). `received` is whether the row processes the request that a
HANDLE_TRANSACTION row received before (log entry 8); a row without it is a frame of its own. Of a row that is a handle transaction of
its own `clocks` is how many bytes the handle clocks in it at least (R163). -/
structure Req where
  port : Port
  tag : Nat
  tier : Nat
  fits : Bool
  received : Bool
  clocks : Nat
  deriving DecidableEq, Repr

/-- What the dock rail's comparator pair reads (R119). -/
inductive RailReading where
  | high | neither | low
  deriving DecidableEq, Repr

/-- One value for each of the fourteen channels of a scan (R1's table). -/
structure PerChannel (α : Type) where
  cell1 : α
  cell2 : α
  cell3 : α
  cell4 : α
  cell5 : α
  cell6 : α
  cell7 : α
  packI : α
  motorI : α
  brushI : α
  tempA : α
  tempB : α
  tempStage : α
  dockV : α
  deriving DecidableEq, Repr

/-- The twelve kinds of event (R171). -/
inductive EventKind where
  | faultLatched | faultRetired | levelChange | binNear | binFull | suctionState
  | demandEnded | budgetLimited | chargeStage | evacState | headChange | powerState
  deriving DecidableEq, Repr

/-- A gate's policy for an argument outside its bounds (R169). -/
inductive Policy where
  | clamp | refuse
  deriving DecidableEq, Repr

/-- A point of a lookup table: an input and a percentage (R18). -/
structure Point where
  x : Int
  p : Nat
  deriving DecidableEq, Repr

/-- The contents of a profile a WRITE marks present (R66). -/
structure ProfileContents where
  auto : Bool
  sMin : Nat
  base : Nat
  step : Nat
  top : Nat
  ramp : Nat
  bias : List Int
  deriving DecidableEq, Repr

/-- What a WRITE of PROFILE marks the entry (R66). -/
inductive ProfileWrite where
  | absent
  | present (c : ProfileContents)
  deriving DecidableEq, Repr, Inhabited

/-- The start selector of a READ of HISTORY (R99); `other` is a selector of another kind. -/
inductive Selector where
  | sequence (s : Nat)
  | newest (k : Nat)
  | other (kind : Nat)
  deriving DecidableEq, Repr, Inhabited

/-- What a WRITE of GATE carries (R170); `target` is whether it carries a target. -/
structure GateWrite where
  present : Option Bool
  tierLimit : Option Nat
  lo : Option Nat
  hi : Option Nat
  policy : Option Policy
  target : Bool
  deriving DecidableEq, Repr, Inhabited

/-- What a WRITE of BUDGET index 1 carries (R28). -/
structure BudgetWrite where
  pBase : Option Nat
  vKnee : Option Nat
  vFloor : Option Nat
  pReserve : Option Nat
  deriving DecidableEq, Repr, Inhabited

/-- What a WRITE of DIRT index 1 carries (R86). -/
structure SensingWrite where
  fineTh : Option Nat
  coarseTh : Option Nat
  length : Option Nat
  wFine : Option Nat
  wCoarse : Option Nat
  deriving DecidableEq, Repr, Inhabited

/-- What a WRITE of DIRT index 2 carries (R92). -/
structure LevelWrite where
  l1 : Option Nat
  l2 : Option Nat
  l3 : Option Nat
  hard : Option Nat
  lowPile : Option Nat
  highPile : Option Nat
  unknown : Option Nat
  deriving DecidableEq, Repr, Inhabited

/-- The commands: one constructor for each row of spec/opcode_table.json, in the table's order. -/
inductive Instr where
  /-- POWER_ON_RESET: the dock rail as the comparators read it, and the service strap (R119, R121). -/
  | powerOnReset (rail : RailReading) (strap : Bool)
  /-- RESET of POWER index 0 (R173). -/
  | reset (r : Req)
  /-- SERVICE_RESET, with the rail and the strap as sampled (R119, R121). -/
  | serviceReset (rail : RailReading) (strap : Bool)
  | scanStart
  /-- SCAN_COMPLETE: `wait` µs of conversion, then the raw converter codes (R2). -/
  | scanComplete (wait : Nat) (codes : PerChannel Nat)
  /-- TACH_PULSE, `wait` µs after the command before it (R61). -/
  | tachPulse (wait : Nat)
  | speedTimeout
  | spinUpTimeout
  | stallTimeout
  | coastTimeout
  | demandExpired
  | boostExpired
  | stopAssert
  | stopRelease
  | headAttach
  | headDetach
  /-- HEAD_DET_WAKE: the level of HEAD_DET, held 20 ms (R186). -/
  | headDetWake (level : Bool)
  | wakeN
  /-- DOCK_DETECT, with the service strap as sampled (R121). -/
  | dockDetect (strap : Bool)
  | undock
  /-- STRIKE: a comparator trip; `coarse` is whether COARSE_TH was crossed too (R85). -/
  | strike (coarse : Bool)
  | deadTimeEnd
  | windowClose
  | wclPulseEnd
  | evacTimeout
  | chargeHoldExpiry
  | storeProgramComplete
  | settlingEnd
  | standbyEntry
  /-- DWELL_EXPIRY, with HEAD_DET as sampled at the entry (R186). -/
  | dwellExpiry (headDet : Bool)
  /-- SLEEP_DUE, with HEAD_DET as sampled at the entry (R186). -/
  | sleepDue (headDet : Bool)
  /-- HANDLE_TRANSACTION: the bytes clocked in, and whether the handle then clocks on until the response is out (R163). -/
  | handleTransaction (bytes : List Byte) (outFits : Bool)
  /-- HANDLE_POLL: a poll after which the handle clocks on until the oldest waiting response is out (R163). -/
  | handlePoll
  | responseTransmitStart (port : Port)
  | responseSent (port : Port)
  /-- FRAME_BYTE_TIMEOUT: the bytes received so far (R162). -/
  | frameByteTimeout (port : Port) (bytes : List Byte)
  /-- FRAME_FAIL: the bytes of the failing frame, on the handle port all that its transaction clocked (R162, R163). -/
  | frameFail (port : Port) (bytes : List Byte)
  | frameDiscarded (port : Port)
  | read (r : Req) (table index : Nat)
  | readIdent (r : Req)
  | readHistory (r : Req) (sel : Selector)
  | readContinue (r : Req)
  | readEvents (r : Req)
  | writeAccount (r : Req) (qFull cycles : Option Nat)
  | writeTables (r : Req) (index : Nat) (points : List Point)
  | writeBudgetParams (r : Req) (w : BudgetWrite)
  | writeSuctionParams (r : Req) (holdTime : Nat)
  | writeProfile (r : Req) (index generation : Nat) (w : ProfileWrite)
  | announce (r : Req) (typeCode headId firmware : Nat)
  | writeDirtParams (r : Req) (w : SensingWrite)
  | writeLevelParams (r : Req) (w : LevelWrite)
  | writeBin (r : Req) (f fFull : Option Nat)
  /-- WRITE_FAULT: the enabled flag, if carried, and whether another field is carried (R156). -/
  | writeFault (r : Req) (index : Nat) (enabled : Option Bool) (otherField : Bool)
  | writeGate (r : Req) (index : Nat) (w : GateWrite)
  /-- WRITE_EVENTS: the subscription, `none` where the payload names a kind outside the twelve (R171). -/
  | writeEvents (r : Req) (kinds : Option (List EventKind))
  /-- WRITE_STORE: the slot, the length the WRITE states and the value (R179). -/
  | writeStore (r : Req) (index length : Nat) (value : List Byte)
  | clear (r : Req) (index : Nat)
  /-- UNLOCK of STORE index 0; its payload is empty when it fits (R180). -/
  | unlock (r : Req)
  | mode (r : Req) (index : Nat)
  | trigger (r : Req) (arg : Nat)
  | boost (r : Req) (seconds : Nat)
  | sleep (r : Req)
  | brushClaim (r : Req) (watts : Nat)
  | floorReport (r : Req) (code : Nat)
  | chargeRequest (r : Req) (current voltage : Nat) (resync : Bool)
  | evacRequest (r : Req)
  | evacDone (r : Req) (code : Nat)
  | binReset (r : Req)
  | undefinedRequest (r : Req) (op table index : Nat)
  deriving DecidableEq, Repr

end Sys2Proof
end

