-- ==== Sys2Proof/Machine/Records.lean ====
section
/-! DEFINITION. The records of the part: the parts of State, and the responses of the ports with what they carry. -/

namespace Sys2Proof.Machine

/-! ### Names -/

/-- The four power states (11). -/
inductive PowerMode where
  | active | standby | dormant | shelf
  deriving DecidableEq, Repr

/-- Last wake source of the POWER record (R187). -/
inductive WakeSource where
  | powerOn | serviceReset | wake | head | dock | trigger | recharge
  deriving DecidableEq, Repr

/-- Last sleep end of the POWER record (R187). -/
inductive SleepEnd where
  | none | entered | cancelled | refusedAtDue
  deriving DecidableEq, Repr

/-- The six suction states (03). -/
inductive SuctionState where
  | off | spinUp | run | coast | inhibited | tripped
  deriving DecidableEq, Repr

/-- The three inhibit causes (R53). -/
inductive Inhibit where
  | stop | dock | evacuation
  deriving DecidableEq, Repr

/-- Why a demand ended (R49). -/
inductive EndReason where
  | none | released | expired | noBudget | stopped | docked | tripped | power
  deriving DecidableEq, Repr

/-- Head types (04). -/
inductive HeadType where
  | none | motorBrush | softRoller
  deriving DecidableEq, Repr

/-- Floor types (R79). -/
inductive FloorType where
  | hard | lowPile | highPile | unknown
  deriving DecidableEq, Repr

/-- Head rail states (R76). -/
inductive RailState where
  | off | waitAnnounce | on
  deriving DecidableEq, Repr

/-- Rail hold causes (R76). -/
inductive RailCause where
  | trip | notActive | docked | notPowered
  deriving DecidableEq, Repr

/-- Evacuation states (06). -/
inductive EvacState where
  | idle | granted | running | ending
  deriving DecidableEq, Repr

/-- Last outcome of an evacuation (R109); `reduced` is PARTIAL. -/
inductive EvacOutcome where
  | none | complete | reduced | aborted
  deriving DecidableEq, Repr

/-- Last end cause of an evacuation (R109). -/
inductive EvacCause where
  | none | reported | timer | undocked
  deriving DecidableEq, Repr

/-- The stages of the charge session (07). -/
inductive ChargeStage where
  | undocked | negotiating | precharge | cc | cv | topped | hold | faulted
  deriving DecidableEq, Repr

/-- Reported hold reasons (R123, R130). -/
inductive HoldReason where
  | temp | evac | suctionStopping | link | scanWait
  deriving DecidableEq, Repr

/-- The five fault actions (R152). -/
inductive Action where
  | tripSuction | tripBrush | stopCharge | limitSuction | warn
  deriving DecidableEq, Repr

/-- Outcome codes of a response (R167). -/
inductive Code where
  | ok | clamped | busy | frame | settling | noRecord | kind | tier | absent | range | stale
  | state | stillPresent
  deriving DecidableEq, Repr

/-- The causes a STATE answer may carry (R167). -/
inductive Cause where
  | inhibited | tripped | noProfile | short | notSource | detached | noIdent | announced
  | evacuation | notDocked | inProgress | suctionTripped | motorTurning | resync | locked
  | suction | charging
  deriving DecidableEq, Repr

/-! ### Measurement and account (01) -/

/-- A channel's calibration pair (R2). -/
structure CalPair where
  gain : Nat
  offset : Int
  deriving DecidableEq, Repr

/-- The measurement set (R4, R5). -/
structure MeasurementSet where
  seq : Nat
  value : PerChannel Int
  suspect : PerChannel Bool
  vmin : Int
  vmax : Int
  packV : Int
  tHot : Int
  elapsed : Nat
  deriving DecidableEq, Repr

/-- The scan unit (R1..R6). -/
structure ScanUnit where
  cal : PerChannel CalPair
  inProgress : Option Nat
  nextStart : Option Nat
  lastStart : Nat
  lastDone : Nat
  seq : Nat
  latest : Option MeasurementSet
  suspectRun : PerChannel Nat
  cleanRun : PerChannel Nat
  sensing : PerChannel Bool
  firstScan : Bool
  afterShelf : Bool
  deriving DecidableEq, Repr

/-- The energy account (R7..R17, R21..R23). -/
structure Account where
  lastSeq : Nat
  qRem : Nat
  residue : Int
  qFull : Nat
  estimated : Bool
  learnActive : Bool
  learnTotal : Nat
  chargeCancel : Nat
  emptyRun : Nat
  cycleAcc : Nat
  cycleCount : Nat
  deriving DecidableEq, Repr

/-- The three lookup tables (R18). -/
structure Tables where
  ocv : List Point
  dis : List Point
  chg : List Point
  deriving DecidableEq, Repr

/-! ### Budget (02) -/

/-- The budget record (R41's table). -/
structure BudgetRecord where
  scanSeq : Nat
  demand : Bool
  fTemp : Nat
  fVolt : Nat
  pAllow : Nat
  pAvail : Nat
  sTarget : Nat
  sFloor : Nat
  b : Nat
  s : Nat
  runtime : Nat
  runtimeSeq : Nat
  limited : Bool
  short : Bool
  deriving DecidableEq, Repr

/-- The budget unit: its record and its three parameters (R27). -/
structure BudgetUnit where
  record : BudgetRecord
  pBase : Nat
  vKnee : Nat
  vFloor : Nat
  deriving DecidableEq, Repr

/-! ### Suction (03) -/

/-- An active demand (R46); `boostAt` is the boost deadline, absent while the boost flag is clear. -/
structure Demand where
  source : Port
  holdAt : Nat
  boostAt : Option Nat
  deriving DecidableEq, Repr

/-- An entry of the profiles table (R65). -/
structure Profile where
  present : Bool
  generation : Nat
  body : ProfileContents
  deriving DecidableEq, Repr

/-- The suction controller (R46..R69). -/
structure Suction where
  state : SuctionState
  since : Nat
  spinUpAt : Option Nat
  stallAt : Option Nat
  coastAt : Option Nat
  demand : Option Demand
  lastEnd : EndReason
  activeProfile : Nat
  pSet : Nat
  speed : Nat
  lastPulse : Option Nat
  stop : Bool
  holdTime : Nat
  profiles : List Profile
  deriving DecidableEq, Repr

/-! ### Head (04) -/

/-- The head record (R70..R84). -/
structure Head where
  attached : Bool
  identRead : Bool
  announced : Bool
  type : HeadType
  id : Option Nat
  firmware : Option Nat
  floor : FloorType
  claim : Nat
  grant : Nat
  frameSeen : Bool
  silentSince : Nat
  deriving DecidableEq, Repr

/-! ### Dirt (05) -/

/-- The sensing parameters (R86). -/
structure SensingParams where
  fineTh : Nat
  coarseTh : Nat
  length : Nat
  wFine : Nat
  wCoarse : Nat
  deriving DecidableEq, Repr

/-- The level parameters (R92). -/
structure LevelParams where
  l1 : Nat
  l2 : Nat
  l3 : Nat
  hard : Nat
  lowPile : Nat
  highPile : Nat
  unknown : Nat
  deriving DecidableEq, Repr

/-- The open window (R87), with the parameters fixed at its opening (R86). -/
structure Window where
  openedAt : Nat
  params : SensingParams
  fine : Nat
  coarse : Nat
  economy : Bool
  first : Bool
  deriving DecidableEq, Repr

/-- A strike in its dead time (R85). -/
structure Strike where
  endAt : Nat
  coarse : Bool
  deriving DecidableEq, Repr

/-- A window record of the history ring (R90). -/
structure WindowRecord where
  seq : Nat
  fine : Nat
  coarse : Nat
  floor : FloorType
  s : Nat
  score : Nat
  level : Nat
  economy : Bool
  first : Bool
  deriving DecidableEq, Repr

/-- A port's position in the history ring (R99); `oldest` is the mark older than any record. -/
inductive Cursor where
  | invalid
  | oldest
  | at (seq : Nat)
  deriving DecidableEq, Repr

/-- One value for each port. -/
structure PerPort (α : Type) where
  handle : α
  head : α
  dock : α
  deriving DecidableEq, Repr

/-- The dirt counter (R85..R103). -/
structure Dirt where
  level : Nat
  holdDown : Nat
  economy : Bool
  window : Option Window
  strike : Option Strike
  recent : List Nat
  scoreSum : Nat
  e1 : Nat
  e2 : Nat
  e3 : Nat
  seq : Nat
  ring : List WindowRecord
  cursors : PerPort Cursor
  wclUntil : Option Nat
  params : SensingParams
  levels : LevelParams
  deriving DecidableEq, Repr

/-! ### Bin (06) and charge (07) -/

/-- The bin account (R104..R118). -/
structure Bin where
  f : Nat
  fFull : Nat
  evac : EvacState
  evacAt : Option Nat
  lastOutcome : EvacOutcome
  lastCause : EvacCause
  deriving DecidableEq, Repr

/-- The dock's stated capability (R133). -/
structure Capability where
  current : Nat
  voltage : Nat
  deriving DecidableEq, Repr

/-- The charge session (R119..R143). -/
structure Charge where
  stage : ChargeStage
  temp : Bool
  curGrant : Nat
  voltGrant : Nat
  cap : Option Capability
  stageMs : Nat
  totalMs : Nat
  preMs : Nat
  termRun : Nat
  holdAt : Option Nat
  badFrames : Nat
  resyncRequired : Bool
  linkFlag : Bool
  scanWait : Bool
  balance : List Nat
  dockTier : Nat
  icc : Nat
  fCharge : Nat
  deriving DecidableEq, Repr

/-! ### Faults (08) -/

/-- An entry of the fault table (08); its channel is its place in the table. -/
structure FaultEntry where
  enabled : Bool
  present : Bool
  acc : Option Nat
  latched : Bool
  latchSeq : Option Nat
  occurrences : Nat
  lastValue : Option Int
  wide : Bool
  deriving DecidableEq, Repr

/-- The fault supervisor: the table, the sequence of the scan it last acted on (R5), and the handle silence timer's restart moment
(R151). -/
structure Supervisor where
  entries : List FaultEntry
  lastSeq : Nat
  handleSince : Nat
  deriving DecidableEq, Repr

/-! ### Store (10) -/

/-- A slot's content (R175): BLANK; a whole entry; or what a cut-short program left, numbered for its free value. -/
inductive Slot where
  | blank
  | entry (tag length : Nat) (value : List Byte) (check : Byte)
  | torn (n : Nat)
  deriving DecidableEq, Repr

/-- The three slot states (R175). -/
inductive SlotState where
  | blank | valid | bad
  deriving DecidableEq, Repr

/-- A program in progress (R177). -/
structure Program where
  tag : Nat
  value : List Byte
  endAt : Nat
  deriving DecidableEq, Repr

/-- The calibration store (R175..R181); slot t stands at place t − 1. -/
structure Store where
  slots : List Slot
  program : Option Program
  queue : List Nat
  locked : Bool
  replaced : Nat
  blank : Nat
  deriving DecidableEq, Repr

/-! ### Power (11) -/

/-- The power controller (R182..R187). -/
structure Power where
  mode : PowerMode
  settlingUntil : Option Nat
  restSince : Option Nat
  dwellSince : Option Nat
  sleepDue : Option Nat
  lastWake : WakeSource
  lastSleepEnd : SleepEnd
  activeSince : Nat
  shelfCount : Option Nat
  headSample : Bool
  headLine : Bool
  handleStop : Option Nat
  deriving DecidableEq, Repr

/-! ### Ports (09): gates, responses, engines -/

/-- The bounds of a gate's bounded argument, with its policy (R168's gate table). -/
structure Bound where
  lo : Nat
  hi : Nat
  policy : Policy
  deriving DecidableEq, Repr

/-- The blocks a gate may have as its target (R168's gate table). -/
inductive GateTarget where
  | suction | power | head | charge | bin
  deriving DecidableEq, Repr

/-- An entry of the gate table (R168's gate table); `target` is the block that acts on it, fixed in the part. -/
structure Gate where
  present : Bool
  tierLimit : Nat
  bound : Option Bound
  target : Option GateTarget
  deriving DecidableEq, Repr

/-- The ACCOUNT record as read (R17; 01, the record's table). -/
structure AccountView where
  lastSeq : Nat
  qRem : Nat
  residue : Int
  qFull : Nat
  soc : Nat
  eRem : Nat
  estimated : Bool
  learnActive : Bool
  learnTotal : Nat
  emptyRun : Nat
  cycleAcc : Nat
  cycleCount : Nat
  deriving DecidableEq, Repr

/-- The SUCTION record as read (R68); remaining times in ms. -/
structure SuctionView where
  state : SuctionState
  causes : List Inhibit
  demand : Bool
  source : Option Port
  holdRemaining : Nat
  boost : Bool
  boostRemaining : Nat
  lastEnd : EndReason
  activeProfile : Nat
  pSet : Nat
  mset : Nat
  men : Bool
  speed : Nat
  timeInState : Nat
  deriving DecidableEq, Repr

/-- The HEAD record as read (R83). -/
structure HeadView where
  attached : Bool
  identRead : Bool
  announced : Bool
  type : HeadType
  id : Option Nat
  firmware : Option Nat
  cap : Nat
  floor : FloorType
  claim : Nat
  grant : Nat
  rail : RailState
  causes : List RailCause
  frameSeen : Bool
  silence : Nat
  deriving DecidableEq, Repr

/-- The DIRT record as read (R98). -/
structure DirtView where
  level : Nat
  holdDown : Nat
  economy : Bool
  windowOpen : Bool
  fine : Nat
  coarse : Nat
  elapsed : Nat
  windowEconomy : Bool
  windowFirst : Bool
  scoresHeld : Nat
  scoreSum : Nat
  e1 : Nat
  e2 : Nat
  e3 : Nat
  seq : Nat
  ringCount : Nat
  oldest : Option Nat
  newest : Option Nat
  deriving DecidableEq, Repr

/-- The BIN record as read (R109). -/
structure BinView where
  f : Nat
  fFull : Nat
  fill : Nat
  evac : EvacState
  remaining : Option Nat
  lastOutcome : EvacOutcome
  lastCause : EvacCause
  deriving DecidableEq, Repr

/-- The CHARGE record as read (R142); elapsed times in s, the charge hold in ms. -/
structure ChargeView where
  stage : ChargeStage
  reason : Option HoldReason
  causes : List HoldReason
  curGrant : Nat
  voltGrant : Nat
  cap : Option Capability
  stageS : Nat
  totalS : Nat
  preS : Nat
  termRun : Nat
  holdRemaining : Option Nat
  badFrames : Nat
  resyncRequired : Bool
  linkFlag : Bool
  scanWait : Bool
  balance : List Nat
  dockTier : Nat
  icc : Nat
  fCharge : Nat
  deriving DecidableEq, Repr

/-- The STORE status entry as read (R179). -/
structure StoreView where
  programming : Bool
  tag : Option Nat
  remaining : Option Nat
  queue : List Nat
  locked : Bool
  replaced : Nat
  blank : Nat
  deriving DecidableEq, Repr

/-- The POWER record as read (R187). -/
structure PowerView where
  mode : PowerMode
  settling : Nat
  rest : Nat
  dwell : Nat
  sleepDue : Option Nat
  lastWake : WakeSource
  lastSleepEnd : SleepEnd
  deriving DecidableEq, Repr

/-- What a response carries (R167): what the owning rule names, as numbers and records. -/
inductive Payload where
  | empty
  /-- IDENT (R168): part code, frame format level, port, its tier, settling. -/
  | ident (part level : Nat) (port : Port) (tier : Nat) (settling : Bool)
  /-- SCAN before the first completed scan (R6): sequence 0 and no values. -/
  | scanNone (seq : Nat)
  /-- SCAN index 0 (R6). -/
  | scanCells (seq : Nat) (cells : List Int) (vmin vmax packV : Int) (elapsed : Nat)
  /-- SCAN index 1 (R6). -/
  | scanRest (seq : Nat) (packI motorI brushI tempA tempB tempStage tHot dockV : Int) (suspect : List Nat)
  | account (v : AccountView)
  | points (l : List Point)
  | budget (v : BudgetRecord)
  | budgetParams (pBase vKnee vFloor pReserve : Nat)
  | profile (p : Profile)
  | suction (v : SuctionView)
  | holdTime (n : Nat)
  | head (v : HeadView)
  | dirt (v : DirtView)
  | sensing (v : SensingParams)
  | levels (v : LevelParams)
  /-- A read of the ring (R100). -/
  | history (records : List WindowRecord) (atEnd skipped : Bool)
  | bin (v : BinView)
  | charge (v : ChargeView)
  | fault (channel : Nat) (e : FaultEntry) (actions : List Action)
  | faultSummary (latched present : List Nat) (actions : List Action) (fltN : Bool)
  | gate (index : Nat) (g : Gate)
  | events (set subscription : List EventKind)
  | eventSet (set : List EventKind)
  | store (v : StoreView)
  | slot (state : SlotState) (length : Nat) (value : List Byte)
  | power (v : PowerView)
  | needTier (n : Nat)
  | generation (n : Nat)
  | cause (c : Cause)
  /-- A taken press (R46). -/
  | suctionState (s : SuctionState)
  /-- A taken claim (R78). -/
  | claim (claim cap grant : Nat)
  /-- A taken charge request (R133). -/
  | chargeAnswer (stage : ChargeStage) (reason : Option HoldReason) (current voltage : Nat) (resync : Bool)
  /-- A taken EVAC_REQUEST: the timer in ms (R111). -/
  | evacTimer (n : Nat)
  /-- F and the fill percentage (R108, R114). -/
  | fill (f percent : Nat)
  /-- A taken SLEEP: ms to the due moment (R184). -/
  | dueIn (n : Nat)
  deriving DecidableEq, Repr

/-- A formed response (R163, R167). `ofRequest` is whether it answers the request in process (and not a discarded one). -/
structure Response where
  tag : Nat
  pending : Bool
  code : Code
  payload : Payload
  ofRequest : Bool
  deriving DecidableEq, Repr

/-- A request in process (R165). `frame` is what a handle transaction clocked in, held until its response is formed: the tag and the
tier, operation, table, index, generation and payload (R163). It is empty where the request is its row's own. -/
structure InProcess where
  tag : Nat
  isReset : Bool
  frame : List Byte
  deriving DecidableEq, Repr

/-- What a port's partner saw last, and the bytes it read: nothing yet, the empty response, a response, or a frame that fails its
check because a response did not fit in its transaction. The bytes of a handle transaction are all that it clocked, with 00h for those
beyond the part's frame (R163). -/
inductive Delivery where
  | nothing
  | empty (bytes : List Byte)
  | response (x : Response) (bytes : List Byte)
  | failing (bytes : List Byte)
  deriving DecidableEq, Repr

/-- A port engine (R163..R165, R171). `waiting` is the handle's waiting list, the transmit list of the others. -/
structure Engine where
  inProcess : Option InProcess
  waiting : List Response
  sending : Option Response
  delivered : Delivery
  events : List EventKind
  subscription : List EventKind
  deriving DecidableEq, Repr

/-- The request ports: three engines and the gate table. -/
structure Ports where
  engine : PerPort Engine
  gates : List Gate
  deriving DecidableEq, Repr

end Sys2Proof.Machine
end

