-- ==== Sys2Proof/Config.lean ====
section
/-! DEFINITION. The free values: what the manual leaves open and no proof may look into. -/

namespace Sys2Proof

/-- The length byte left in a slot whose program was cut short (R175 says only that the slot is BAD): a free value,
one for each cut-short program. -/
opaque Config.tornLength : Nat → Nat

/-- The value bytes left in a slot whose program was cut short (R175): a free value, one for each cut-short program. -/
opaque Config.tornValue : Nat → List Byte

/-! ### Payloads in bytes

The manual gives the fields of each payload and not their bytes (09, Frame format; log entries 63, 64): free values. -/

/-- How many bytes a payload has in a response frame, as far as the frame's room goes. -/
opaque Config.payloadLength : Machine.Payload → Nat

/-- The bytes of a payload in a response frame, by their places. -/
opaque Config.payloadByte : Machine.Payload → Nat → Byte

/-- Whether a payload of so many bytes fits an operation, a table and an index (R166, step 8). -/
opaque Config.payloadFits : Nat → Nat → Nat → Nat → Bool

/-- The start selector that the payload of a READ of HISTORY names (R99). -/
opaque Config.selectorOf : List Byte → Selector

/-- Q_full and the cycle count, where a WRITE of ACCOUNT carries them (R17). -/
opaque Config.accountOf : List Byte → Option Nat × Option Nat

/-- The points that a WRITE of TABLES carries (R19). -/
opaque Config.pointsOf : List Byte → List Point

/-- What a WRITE of BUDGET index 1 carries (R28). -/
opaque Config.budgetOf : List Byte → BudgetWrite

/-- What a WRITE of PROFILE carries (R66). -/
opaque Config.profileOf : List Byte → ProfileWrite

/-- What a WRITE of DIRT index 1 carries (R86). -/
opaque Config.sensingOf : List Byte → SensingWrite

/-- What a WRITE of DIRT index 2 carries (R92). -/
opaque Config.levelsOf : List Byte → LevelWrite

/-- F and F_full, where a WRITE of BIN carries them (R109). -/
opaque Config.binOf : List Byte → Option Nat × Option Nat

/-- The enabled flag, where a WRITE of FAULT carries it, and whether it carries another field (R156). -/
opaque Config.faultOf : List Byte → Option Bool × Bool

/-- What a WRITE of GATE carries (R170). -/
opaque Config.gateOf : List Byte → GateWrite

/-- The kinds that a WRITE of EVENTS names, `none` where one is outside the twelve (R171). -/
opaque Config.kindsOf : List Byte → Option (List EventKind)

/-- The dock max current, the dock max voltage and the resync flag of a CHARGE_REQUEST (R133). -/
opaque Config.chargeOf : List Byte → Nat × Nat × Bool

end Sys2Proof
end

