-- ==== Sys2Proof/Machine/Defaults.lean ====
section
/-! DEFINITION. The built-in defaults, ranges and tables of the manual, as constants. -/

namespace Sys2Proof.Machine

/-- Built-in calibration pairs (10, tag table, tags 1..14). -/
def defaultCal : PerChannel CalPair :=
  let cell : CalPair := ⟨40010, 0⟩
  let temp : CalPair := ⟨1320, -40⟩
  { cell1 := cell, cell2 := cell, cell3 := cell, cell4 := cell, cell5 := cell, cell6 := cell, cell7 := cell,
    packI := ⟨640156, -40000⟩, motorI := ⟨320078, 0⟩, brushI := ⟨40010, 0⟩,
    tempA := temp, tempB := temp, tempStage := temp, dockV := ⟨320078, 0⟩ }

/-- Default OCV points (01, Lookup tables). -/
def defaultOcv : List Point :=
  [⟨3000, 0⟩, ⟨3450, 5⟩, ⟨3600, 20⟩, ⟨3700, 40⟩, ⟨3800, 55⟩, ⟨3950, 75⟩, ⟨4100, 92⟩, ⟨4200, 100⟩]

/-- Default discharge derating points (01, Lookup tables). -/
def defaultDis : List Point := [⟨-20, 40⟩, ⟨0, 80⟩, ⟨10, 100⟩, ⟨45, 100⟩, ⟨55, 65⟩, ⟨60, 0⟩]

/-- Default charge derating points (01, Lookup tables). -/
def defaultChg : List Point := [⟨0, 0⟩, ⟨5, 50⟩, ⟨10, 100⟩, ⟨45, 100⟩, ⟨50, 0⟩]

/-- The built-in profiles (03, The profiles table). -/
def defaultProfiles : List Profile :=
  let none4 : Profile := ⟨false, 0, ⟨false, 0, 0, 0, 0, 0, []⟩⟩
  [⟨true, 0, ⟨false, 40, 60, 0, 60, 20, []⟩⟩,
   ⟨true, 0, ⟨true, 40, 120, 40, 300, 20, [0, 20, 40, 0]⟩⟩,
   ⟨true, 0, ⟨false, 40, 400, 0, 400, 20, []⟩⟩,
   ⟨true, 0, ⟨true, 60, 150, 50, 400, 20, [0, 30, 60, 0]⟩⟩,
   none4, none4, none4, none4]

/-- An entry that does not exist in the table: absent, all fields 0. -/
def noProfile : Profile := ⟨false, 0, ⟨false, 0, 0, 0, 0, 0, []⟩⟩

/-- Default sensing parameters (R86). -/
def defaultSensing : SensingParams := ⟨120, 480, 50, 1, 8⟩

/-- Default level parameters (R92). -/
def defaultLevels : LevelParams := ⟨40, 120, 300, 100, 130, 170, 100⟩

/-- Power-on values of the budget record (R43). -/
def clearBudget : BudgetRecord :=
  { scanSeq := 0, demand := false, fTemp := 0, fVolt := 0, pAllow := 0, pAvail := 0, sTarget := 0, sFloor := 0,
    b := 0, s := 0, runtime := 0, runtimeSeq := 0, limited := false, short := false }

/-- Power-on values of the head record, the silence timer restarting at `now` (R84, R81). -/
def clearHead (now : Nat) : Head :=
  { attached := false, identRead := false, announced := false, type := .none, id := none, firmware := none,
    floor := .unknown, claim := 0, grant := 0, frameSeen := false, silentSince := now }

/-- Reset values of a fault entry (08, entry table). -/
def clearEntry : FaultEntry :=
  { enabled := true, present := false, acc := none, latched := false, latchSeq := none, occurrences := 0,
    lastValue := none, wide := false }

/-- Eighteen channels, emptied (R160). -/
def clearFaults : List FaultEntry := List.replicate 18 clearEntry

/-- An entry with no target, not present (log entry 9). -/
def spareGate : Gate := ⟨false, 3, none, none⟩

/-- The built-in gate table (R168's gate table). Entries 10..15 are not present; their tier limit is not stated
(DESIGN CHOICE 3, log entry 9, unsafe). -/
def builtinGates : List Gate :=
  [⟨true, 2, some ⟨0, 7, .refuse⟩, some .suction⟩, ⟨true, 2, some ⟨0, 1, .refuse⟩, some .suction⟩,
   ⟨true, 2, some ⟨1, 20, .clamp⟩, some .suction⟩, ⟨true, 2, none, some .power⟩,
   ⟨true, 3, some ⟨0, 255, .clamp⟩, some .head⟩, ⟨true, 3, some ⟨0, 3, .refuse⟩, some .head⟩,
   ⟨true, 1, some ⟨0, 8000, .clamp⟩, some .charge⟩, ⟨true, 1, none, some .bin⟩,
   ⟨true, 1, some ⟨0, 2, .refuse⟩, some .bin⟩, ⟨true, 2, none, some .bin⟩,
   spareGate, spareGate, spareGate, spareGate, spareGate, spareGate]

/-- The twelve kinds of event in the order of R171. -/
def allKinds : List EventKind :=
  [.faultLatched, .faultRetired, .levelChange, .binNear, .binFull, .suctionState, .demandEnded, .budgetLimited,
   .chargeStage, .evacState, .headChange, .powerState]

/-- The kinds of a list, each once, in the order of R171: how a set of kinds is held. -/
def kindSet (l : List EventKind) : List EventKind := allKinds.filter (fun k => l.contains k)

/-- Default subscriptions (R171's table). -/
def defaultSubscription : Port → List EventKind
  | .handle => allKinds
  | .head => kindSet [.headChange, .faultLatched, .faultRetired]
  | .dock => kindSet [.chargeStage, .evacState, .binNear, .binFull, .faultLatched, .faultRetired, .powerState]

/-- An engine after a reset (R173, R174). -/
def clearEngine (p : Port) : Engine :=
  { inProcess := none, waiting := [], sending := none, delivered := .nothing, events := [],
    subscription := defaultSubscription p }

/-- The request ports after a reset (R173, R174). -/
def clearPorts : Ports :=
  { engine := { handle := clearEngine .handle, head := clearEngine .head, dock := clearEngine .dock },
    gates := builtinGates }

/-- The charge session at power-on and at a service reset, undocked (07, record table). The cycle count gives I_cc. -/
def clearCharge (icc : Nat) : Charge :=
  { stage := .undocked, temp := false, curGrant := 0, voltGrant := 0, cap := none, stageMs := 0, totalMs := 0,
    preMs := 0, termRun := 0, holdAt := none, badFrames := 0, resyncRequired := false, linkFlag := false,
    scanWait := false, balance := [], dockTier := 1, icc := icc, fCharge := 0 }

/-- The same value for all fourteen channels. -/
def allChannels {α : Type} (a : α) : PerChannel α := ⟨a, a, a, a, a, a, a, a, a, a, a, a, a, a⟩

end Sys2Proof.Machine
end

