-- ==== Sys2Proof/Machine/State.lean ====
section
/-! DEFINITION. The state of the part, the ways a step can stop, and the state right after the power-on reset. -/

namespace Sys2Proof.Machine

/-- Ways the part stops with a fault: none. The manual gives every command an effect, so no meaning faults (safe: the
model never stops where the part goes on). -/
inductive Fault where
  deriving DecidableEq, Repr

/-- Ways a command has no meaning. -/
inductive Refusal where
  /-- A command of the table whose meaning the model does not give: raised by an arm of `exec` only; safe. No arm raises it. -/
  | notModelled (mnemonic : String)
  deriving DecidableEq, Repr

/-- Everything the manual gives the part, with the model's own clock, queue and counter. -/
structure State where
  /-- Microseconds since `State.reset`: the model's own (log entry 1). -/
  clock : Nat
  /-- Commands waiting, first in first out. -/
  pending : List Instr
  scan : ScanUnit
  account : Account
  tables : Tables
  budget : BudgetUnit
  suction : Suction
  head : Head
  dirt : Dirt
  bin : Bin
  charge : Charge
  faults : Supervisor
  ports : Ports
  store : Store
  power : Power
  /-- Numbers the free contents of cut-short slots: the model's own (log entry 5). -/
  tornCount : Nat
  deriving DecidableEq, Repr

/-- The part right after the power-on reset: never-programmed store (R176), no dock rail, no head.
The choices among its values are log entries 1, 4, 7, 9 and 10. -/
def State.reset : State where
  clock := 0
  pending := []
  scan :=
    { cal := defaultCal, inProgress := some 0, nextStart := some (ms 10), lastStart := 0, lastDone := 0, seq := 0,
      latest := none, suspectRun := allChannels 0, cleanRun := allChannels 0, sensing := allChannels false,
      firstScan := true, afterShelf := false }
  account :=
    { lastSeq := 0, qRem := 0, residue := 0, qFull := 4000, estimated := true, learnActive := false, learnTotal := 0,
      chargeCancel := 0, emptyRun := 0, cycleAcc := 0, cycleCount := 0 }
  tables := { ocv := defaultOcv, dis := defaultDis, chg := defaultChg }
  budget := { record := clearBudget, pBase := 450, vKnee := 3400, vFloor := 3000 }
  suction :=
    { state := .off, since := 0, spinUpAt := none, stallAt := none, coastAt := none, demand := none, lastEnd := .none,
      activeProfile := 1, pSet := 0, speed := 0, lastPulse := none, stop := false, holdTime := 250,
      profiles := defaultProfiles }
  head := clearHead 0
  dirt :=
    { level := 0, holdDown := 0, economy := false, window := none, strike := none, recent := [], scoreSum := 0,
      e1 := 0, e2 := 0, e3 := 0, seq := 0, ring := [], cursors := ⟨.invalid, .invalid, .invalid⟩, wclUntil := none,
      params := defaultSensing, levels := defaultLevels }
  bin := { f := 0, fFull := 40000, evac := .idle, evacAt := none, lastOutcome := .none, lastCause := .none }
  charge := clearCharge 4000
  faults := { entries := clearFaults, lastSeq := 0, handleSince := 0 }
  ports := clearPorts
  store := { slots := List.replicate 40 .blank, program := none, queue := [], locked := true, replaced := 0, blank := 40 }
  power :=
    { mode := .active, settlingUntil := some (ms 100), restSince := some 0, dwellSince := none, sleepDue := none,
      lastWake := .powerOn, lastSleepEnd := .none, activeSince := 0, shelfCount := none, headSample := false,
      headLine := false, handleStop := none }
  tornCount := 0

/-! ### One block replaced -/

def State.setClock (s : State) (x : Nat) : State := { s with clock := x }
def State.setPending (s : State) (x : List Instr) : State := { s with pending := x }
def State.setScan (s : State) (x : ScanUnit) : State := { s with scan := x }
def State.setAccount (s : State) (x : Account) : State := { s with account := x }
def State.setTables (s : State) (x : Tables) : State := { s with tables := x }
def State.setBudget (s : State) (x : BudgetUnit) : State := { s with budget := x }
def State.setSuction (s : State) (x : Suction) : State := { s with suction := x }
def State.setHead (s : State) (x : Head) : State := { s with head := x }
def State.setDirt (s : State) (x : Dirt) : State := { s with dirt := x }
def State.setBin (s : State) (x : Bin) : State := { s with bin := x }
def State.setCharge (s : State) (x : Charge) : State := { s with charge := x }
def State.setFaults (s : State) (x : Supervisor) : State := { s with faults := x }
def State.setPorts (s : State) (x : Ports) : State := { s with ports := x }
def State.setStore (s : State) (x : Store) : State := { s with store := x }
def State.setPower (s : State) (x : Power) : State := { s with power := x }
def State.setTornCount (s : State) (x : Nat) : State := { s with tornCount := x }

end Sys2Proof.Machine
end

