-- ==== Sys2Proof/Machine/Bytes.lean ====
section
/-! DEFINITION. Bytes: the CRC-8 and the frame check of R162, and the little-endian numbers of frames and slots. -/

namespace Sys2Proof.Machine

/-- One bit of the CRC-8 with the polynomial x^8 + x^2 + x + 1 (R162). -/
def crcBit (c : Byte) : Byte :=
  if c.getLsbD 7 then (c <<< 1) ^^^ 0x07#8 else c <<< 1

/-- One byte into the CRC, most significant bit first (R162). -/
def crcByte (c b : Byte) : Byte :=
  crcBit (crcBit (crcBit (crcBit (crcBit (crcBit (crcBit (crcBit (c ^^^ b))))))))

/-- CRC-8 with initial value 0 and no final inversion (R162). -/
def crc8 (l : List Byte) : Byte := l.foldl crcByte 0

/-- `n` bytes of a number, least significant first (09, Frame format). -/
def leBytes : Nat → Nat → List Byte
  | 0, _ => []
  | n + 1, v => BitVec.ofNat 8 v :: leBytes n (v / 256)

/-- The number held by bytes, least significant first. -/
def leNat : List Byte → Nat
  | [] => 0
  | b :: l => b.toNat + 256 * leNat l

/-- `n` bytes of a signed number in two's complement (09, Frame format). -/
def leSigned (n : Nat) (v : Int) : List Byte := leBytes n (v % (256 ^ n : Nat)).toNat

/-- The signed number held by bytes in two's complement. -/
def leInt (l : List Byte) : Int :=
  let v := leNat l
  if v < 256 ^ l.length / 2 then (v : Int) else (v : Int) - (256 ^ l.length : Nat)

/-- Whether a received frame passes its check (R162). A frame cut short, by a gap between bytes or by the end of a
transaction, lacks its last bytes. On the handle port bytes clocked beyond the frame are not part of it (R163); on the head and dock
ports a frame with bytes after its check byte fails, and so does one without a byte (DESIGN CHOICE, log entry 60, unsafe). -/
def frameOk (p : Port) (bytes : List Byte) : Bool :=
  match bytes with
  | [] => false
  | b0 :: rest =>
    let n := b0.toNat
    let lengthOk := (5 ≤ n && n ≤ 37) || (n == 0 && p == .handle)
    let whole := if p == .handle then n + 1 ≤ rest.length else n + 1 == rest.length
    let reserved := n == 0 || (rest.headD 0 &&& 0x0C#8) == 0
    lengthOk && whole && reserved && crc8 (b0 :: rest.take n) == rest.getD n 0

/-- The frame that the bytes begin has arrived with its check byte: as many bytes as its length byte says, and two (09, Frame format). -/
def frameWhole (bytes : List Byte) : Bool :=
  match bytes with
  | [] => false
  | b0 :: rest => b0.toNat + 1 ≤ rest.length

/-- The tag of a frame: bits 7..4 of byte 1, 0 where no byte 1 arrived (R162); a frame of length 0 carries no byte 1
(09, Frame format). -/
def frameTag (bytes : List Byte) : Nat :=
  match bytes with
  | b0 :: b1 :: _ => if b0 = 0 then 0 else b1.toNat / 16
  | _ => 0

/-- Whether a frame is a poll, that is, of length 0 (R162). -/
def framePoll (bytes : List Byte) : Bool := bytes.headD 0 == 0

end Sys2Proof.Machine
end

