-- ==== Sys2Proof/Machine/Frames.lean ====
section
/-! DEFINITION. Request and response frames (09, Frame format): a response in bytes (R163, R167), the tables and their operations
(R168), and the request row that a received frame spells. -/

namespace Sys2Proof.Machine

/-! ### Responses in bytes (R163, R167) -/

/-- The outcome codes (R167). -/
def Code.number : Code → Nat
  | .ok => 0
  | .clamped => 1
  | .busy => 2
  | .frame => 3
  | .settling => 4
  | .noRecord => 5
  | .kind => 6
  | .tier => 7
  | .absent => 8
  | .range => 9
  | .stale => 10
  | .state => 11
  | .stillPresent => 12

/-- The greatest payload of a response: L is 34 at most, and the payload has L − 2 bytes (09, Frame format). -/
def maxPayload : Nat := 32

/-- The bytes of a response's payload (R167). An empty payload has none; a payload of one number is that number, least significant byte
first, in a free number of bytes; the bytes of the others are free values, as many as a frame has room for (log entry 63). -/
def payloadBytes (p : Payload) : List Byte :=
  let n := min maxPayload (Config.payloadLength p)
  match p with
  | .empty => []
  | .needTier x | .generation x | .holdTime x | .evacTimer x | .dueIn x => leBytes n x
  | p => (List.range n).map (Config.payloadByte p)

/-- A frame: its length byte, its bytes 1..L and the check byte (R162). -/
def framed (body : List Byte) : List Byte :=
  let bytes := BitVec.ofNat 8 body.length :: body
  bytes ++ [crc8 bytes]

/-- Byte 1 of a response: the tag echo in bits 7..4, the events-pending flag in bit 0 (09, Frame format). -/
def Response.head (x : Response) : Byte := BitVec.ofNat 8 (x.tag * 16 + x.pending.toNat)

/-- A response in bytes (09, Frame format; R167): length, tag echo and flag, outcome code, payload, check. -/
def Response.bytes (x : Response) : List Byte :=
  framed (x.head :: BitVec.ofNat 8 x.code.number :: payloadBytes x.payload)

/-- The empty response, 00h 00h (R163). -/
def emptyFrame : List Byte := framed []

/-- The frame that a handle transaction clocks out: the oldest waiting response, the empty one where none waits (R163). -/
def outFrame : List Response → List Byte
  | [] => emptyFrame
  | x :: _ => x.bytes

/-- What is read in a transaction of `n` bytes: the frame, and 00h for the bytes beyond it (R163). -/
def zeroPadded (n : Nat) (frame : List Byte) : List Byte := frame ++ List.replicate (n - frame.length) 0#8

/-! ### Tables and operations (R168) -/

/-- The highest index of a table (R168). -/
def lastIndex (table : Nat) : Nat :=
  match table with
  | 2 => 1
  | 3 => 2
  | 4 => 1
  | 5 => 7
  | 6 => 1
  | 8 => 2
  | 12 => 18
  | 13 => 15
  | 15 => 40
  | _ => 0

/-- The operation is defined for the table and index on the port (R168). -/
def opDefined (p : Port) (op table index : Nat) : Bool :=
  match op with
  | 1 => true
  | 2 =>
    match table with
    | 1 | 3 | 5 | 10 | 13 | 14 => true
    | 4 | 6 => index == 1
    | 7 => p == .head
    | 8 => index == 1 || index == 2
    | 12 => index < 18
    | 15 => index != 0
    | _ => false
  | 3 => table == 9
  | 4 => table == 12 && index < 18
  | 5 => table == 13
  | 6 => table == 15 && index == 0
  | 7 => table == 16
  | 8 => table == 14
  | _ => false

/-- Steps 4 and 5 of R166. -/
def addressed (p : Port) (op table index : Nat) : Option Code :=
  if 16 < table ∨ lastIndex table < index then some .noRecord
  else if opDefined p op table index then none
  else some .kind

/-- How an undefined request is answered (R166, R169); `none` for a request that is defined. -/
def undefinedCode (p : Port) (op table index : Nat) : Option Code :=
  match addressed p op table index with
  | some c => some c
  | none => if op = 5 ∧ table = 13 ∧ 10 ≤ index then some .absent else none

/-- The request a command carries; `none` for the commands that are no requests. -/
def requestOf : Instr → Option Req
  | .powerOnReset _ _ => none
  | .reset r => some r
  | .serviceReset _ _ => none
  | .scanStart => none
  | .scanComplete _ _ => none
  | .tachPulse _ => none
  | .speedTimeout => none
  | .spinUpTimeout => none
  | .stallTimeout => none
  | .coastTimeout => none
  | .demandExpired => none
  | .boostExpired => none
  | .stopAssert => none
  | .stopRelease => none
  | .headAttach => none
  | .headDetach => none
  | .headDetWake _ => none
  | .wakeN => none
  | .dockDetect _ => none
  | .undock => none
  | .strike _ => none
  | .deadTimeEnd => none
  | .windowClose => none
  | .wclPulseEnd => none
  | .evacTimeout => none
  | .chargeHoldExpiry => none
  | .storeProgramComplete => none
  | .settlingEnd => none
  | .standbyEntry => none
  | .dwellExpiry _ => none
  | .sleepDue _ => none
  | .handleTransaction _ _ => none
  | .handlePoll => none
  | .responseTransmitStart _ => none
  | .responseSent _ => none
  | .frameByteTimeout _ _ => none
  | .frameFail _ _ => none
  | .frameDiscarded _ => none
  | .read r _ _ => some r
  | .readIdent r => some r
  | .readHistory r _ => some r
  | .readContinue r => some r
  | .readEvents r => some r
  | .writeAccount r _ _ => some r
  | .writeTables r _ _ => some r
  | .writeBudgetParams r _ => some r
  | .writeSuctionParams r _ => some r
  | .writeProfile r _ _ _ => some r
  | .announce r _ _ _ => some r
  | .writeDirtParams r _ => some r
  | .writeLevelParams r _ => some r
  | .writeBin r _ _ => some r
  | .writeFault r _ _ _ => some r
  | .writeGate r _ _ => some r
  | .writeEvents r _ => some r
  | .writeStore r _ _ _ => some r
  | .clear r _ => some r
  | .unlock r => some r
  | .mode r _ => some r
  | .trigger r _ => some r
  | .boost r _ => some r
  | .sleep r => some r
  | .brushClaim r _ => some r
  | .floorReport r _ => some r
  | .chargeRequest r _ _ _ => some r
  | .evacRequest r => some r
  | .evacDone r _ => some r
  | .binReset r => some r
  | .undefinedRequest r _ _ _ => some r

/-! ### The row that a received request frame spells (09, Frame format; R163) -/

/-- The first frame of the bytes clocked in a transaction, with its check byte; bytes beyond it are not part of it (R163). -/
def frameOf (bytes : List Byte) : List Byte := bytes.take ((bytes.headD 0).toNat + 2)

/-- The payload of a request frame: its bytes 6..L (09, Frame format). -/
def framePayload (frame : List Byte) : List Byte := (frame.drop 6).take ((frame.headD 0).toNat - 5)

/-- The row that processes a request received on the handle port, read from its frame: the tag and the requested tier from byte 1,
then the operation, the table, the index, the generation and the payload. A payload of one number is that number, least
significant byte first. How the fields of the other payloads lie in their bytes, and which lengths fit, is free; an operation that
carries nothing needs an empty payload; a WRITE of STORE carries the length in its first byte (DEDUCED) and then the value (log
entry 64). The generation byte of the other operations is not looked at (DESIGN CHOICE, log entry 64, unsafe). -/
def requestRow (frame : List Byte) : Instr :=
  let byte (k : Nat) := (frame.getD k 0).toNat
  let p := framePayload frame
  let req (fits : Bool) : Req :=
    { port := .handle, tag := frameTag frame, tier := byte 1 % 4, fits := fits, received := true, clocks := 0 }
  let bare := req p.isEmpty
  let full := req (Config.payloadFits (byte 2) (byte 3) (byte 4) p.length)
  if (undefinedCode .handle (byte 2) (byte 3) (byte 4)).isSome then
    .undefinedRequest (req true) (byte 2) (byte 3) (byte 4)
  else
    match byte 2, byte 3, byte 4 with
    | 1, 0, _ => .readIdent bare
    | 1, 9, _ => .readHistory full (Config.selectorOf p)
    | 1, table, index => .read bare table index
    | 2, 1, _ => .writeAccount full (Config.accountOf p).1 (Config.accountOf p).2
    | 2, 3, index => .writeTables full index (Config.pointsOf p)
    | 2, 4, _ => .writeBudgetParams full (Config.budgetOf p)
    | 2, 5, index => .writeProfile full index (byte 5) (Config.profileOf p)
    | 2, 6, _ => .writeSuctionParams full (leNat p)
    | 2, 8, 1 => .writeDirtParams full (Config.sensingOf p)
    | 2, 8, _ => .writeLevelParams full (Config.levelsOf p)
    | 2, 10, _ => .writeBin full (Config.binOf p).1 (Config.binOf p).2
    | 2, 12, index => .writeFault full index (Config.faultOf p).1 (Config.faultOf p).2
    | 2, 13, index => .writeGate full index (Config.gateOf p)
    | 2, 14, _ => .writeEvents full (Config.kindsOf p)
    | 2, 15, index => .writeStore (req (!p.isEmpty)) index (leNat (p.take 1)) (p.drop 1)
    | 3, _, _ => .readContinue bare
    | 4, _, index => .clear bare index
    | 5, _, 0 => .mode full (leNat p)
    | 5, _, 1 => .trigger full (leNat p)
    | 5, _, 2 => .boost full (leNat p)
    | 5, _, 3 => .sleep bare
    | 5, _, 4 => .brushClaim full (leNat p)
    | 5, _, 5 => .floorReport full (leNat p)
    | 5, _, 6 => .chargeRequest full (Config.chargeOf p).1 (Config.chargeOf p).2.1 (Config.chargeOf p).2.2
    | 5, _, 7 => .evacRequest bare
    | 5, _, 8 => .evacDone full (leNat p)
    | 5, _, 9 => .binReset bare
    | 6, _, _ => .unlock bare
    | 7, _, _ => .reset bare
    | 8, _, _ => .readEvents bare
    | op, table, index => .undefinedRequest (req true) op table index

end Sys2Proof.Machine
end

