-- ==== Sys2Proof/Machine/Flags.lean ====
section
/-! DEFINITION. Every indication, line and flag the manual computes from the records: the motor outputs, the inhibit
causes, the fault actions, the head rail, the hold reason, rest, state of charge, fill, the attention and fault lines. -/

namespace Sys2Proof.Machine

/-! ### Suction -/

/-- The state drives the motor (R59). -/
def SuctionState.driven : SuctionState → Bool
  | .spinUp | .run => true
  | _ => false

/-- MEN (R59). -/
def men (s : State) : Bool := s.suction.state.driven

/-- MSET's duty code (R59). -/
def mset (s : State) : Nat := if men s then s.suction.pSet * 1023 / 600 else 0

/-- The motor stopped indication (R58). -/
def motorStopped (s : State) : Bool := !men s && s.suction.speed < 2000

/-- The session is in a stage other than UNDOCKED (R53). -/
def docked (s : State) : Bool := s.charge.stage != .undocked

/-- The evacuation state is other than EVAC_IDLE: the evacuation cause and indication (R117). -/
def evacuating (s : State) : Bool := s.bin.evac != .idle

/-- The inhibit causes that hold (R53). -/
def inhibits (s : State) : List Inhibit :=
  (if s.suction.stop then [.stop] else []) ++ (if docked s then [.dock] else []) ++
    (if evacuating s then [.evacuation] else [])

/-- Some inhibit cause holds (R53). -/
def inhibited (s : State) : Bool := s.suction.stop || docked s || evacuating s

/-- Suction is at rest (R182). -/
def atRest (s : State) : Bool :=
  s.suction.state == .off ||
    (s.suction.state == .inhibited && inhibits s == [.dock] && motorStopped s)

/-- The active profile's entry (R51). -/
def profileAt (s : State) (i : Nat) : Profile := s.suction.profiles.getD i noProfile

/-- The entry of the profiles table in use. -/
def activeProfile (s : State) : Profile := profileAt s s.suction.activeProfile

/-! ### Faults -/

/-- The actions an entry of a channel carries (08, channel table; R150 for SENSE). -/
def carries (channel : Nat) (wide : Bool) : List Action :=
  match channel with
  | 0 => [.stopCharge]
  | 1 => [.tripSuction, .tripBrush]
  | 2 => [.tripSuction, .tripBrush]
  | 3 => [.stopCharge]
  | 4 => [.tripSuction, .tripBrush, .stopCharge]
  | 5 => [.tripSuction]
  | 6 => [.tripSuction]
  | 7 => [.tripSuction]
  | 8 => [.limitSuction]
  | 9 => [.tripBrush]
  | 10 => [.tripBrush]
  | 11 => [.warn]
  | 12 => [.warn]
  | 13 => [.stopCharge]
  | 14 => [.stopCharge]
  | 15 => [.stopCharge, .limitSuction]
  | 16 => if wide then [.warn, .tripSuction, .stopCharge] else [.warn]
  | 17 => [.warn]
  | _ => []

/-- An action holds while at least one latched entry carries it (R152). -/
def holdsIn (entries : List FaultEntry) (a : Action) : Bool :=
  entries.zipIdx.any fun (e, i) => e.latched && (carries i e.wide).contains a

/-- An action holds (R152). -/
def holds (s : State) (a : Action) : Bool := holdsIn s.faults.entries a

/-- FLT_N is asserted exactly while a latched channel has an action other than WARN (R153). -/
def fltN (s : State) : Bool :=
  s.faults.entries.zipIdx.any fun (e, i) => e.latched && (carries i e.wide).any (fun a => a != .warn)

/-! ### Head -/

/-- The brush cap of a type (04, type table). -/
def HeadType.cap : HeadType → Nat
  | .none => 0
  | .motorBrush => 60
  | .softRoller => 30

/-- Rail permission (R76). -/
def railPermission (s : State) : Bool :=
  s.head.type != .none && s.power.mode == .active && !docked s && !holds s .tripBrush

/-- The rail state (R76). -/
def railState (s : State) : RailState :=
  if !s.head.attached then .off
  else if !s.head.announced then .waitAnnounce
  else if railPermission s then .on else .off

/-- HEADPWR (R76). -/
def headPwr (s : State) : Bool := railState s == .on

/-- The rail hold causes (R76): empty while ON, WAIT_ANNOUNCE or not attached. -/
def railCauses (s : State) : List RailCause :=
  if s.head.attached && s.head.announced then
    (if holds s .tripBrush then [.trip] else []) ++ (if s.power.mode != .active then [.notActive] else []) ++
      (if docked s then [.docked] else []) ++ (if s.head.type == .none then [.notPowered] else [])
  else []

/-! ### Charge -/

/-- The hold cause set is not empty (R130): EVAC and LINK follow the indication and the link flag (R132, R134). -/
def heldByCause (s : State) : Bool := evacuating s || s.charge.linkFlag || s.charge.temp

/-- The hold causes, in the order in which the reason is reported (R130). -/
def holdCauses (s : State) : List HoldReason :=
  if docked s then
    (if evacuating s then [.evac] else []) ++ (if s.charge.linkFlag then [.link] else []) ++
      (if s.charge.temp then [.temp] else [])
  else []

/-- An entry hold of NEGOTIATING stands (R123). -/
def entryHold (s : State) : Bool := !motorStopped s || s.charge.scanWait

/-- The reported hold reason (R123 in NEGOTIATING, R130 in HOLD). -/
def holdReason (s : State) : Option HoldReason :=
  match s.charge.stage with
  | .negotiating => if !motorStopped s then some .suctionStopping else if s.charge.scanWait then some .scanWait else none
  | .hold => (holdCauses s).head?
  | _ => none

/-- The stage is one in which a hold cause brings HOLD (R130). -/
def ChargeStage.charging : ChargeStage → Bool
  | .precharge | .cc | .cv | .topped => true
  | _ => false

/-- The stage is PRECHARGE, CC or CV (R134, R137, R184). -/
def ChargeStage.filling : ChargeStage → Bool
  | .precharge | .cc | .cv => true
  | _ => false

/-- The stage is UNDOCKED or TOPPED, as the entry into STANDBY needs (R182). -/
def ChargeStage.restful : ChargeStage → Bool
  | .undocked | .topped => true
  | _ => false

/-- I_cc at a cycle count (R15). -/
def iccOf (cycles : Nat) : Nat := if 500 ≤ cycles then 3200 else 4000

/-- I_cc in use: while UNDOCKED it follows the cycle count (07, record table), else it is the last computation's (R125). -/
def iccInUse (s : State) : Nat := if docked s then s.charge.icc else iccOf s.account.cycleCount

/-! ### Account and bin -/

/-- Pack voltage of the latest completed scan; 0 before the first (R16). -/
def packVoltage (s : State) : Int :=
  match s.scan.latest with
  | some m => m.packV
  | none => 0

/-- SOC (R16). -/
def soc (s : State) : Nat := s.account.qRem * 100 / s.account.qFull

/-- E_rem in mWh (R16). -/
def eRem (s : State) : Nat := s.account.qRem * (packVoltage s).toNat / 1000

/-- The fill percentage (R105). -/
def fillOf (f fFull : Nat) : Nat := min 100 (f * 100 / fFull)

/-- The fill percentage as it stands. -/
def fill (s : State) : Nat := fillOf s.bin.f s.bin.fFull

/-! ### Power and ports -/

/-- In DORMANT and SHELF the port engines are stopped (R174). -/
def asleep (s : State) : Bool := s.power.mode == .dormant || s.power.mode == .shelf

/-- The engine of a port. -/
def PerPort.get {α : Type} (x : PerPort α) : Port → α
  | .handle => x.handle
  | .head => x.head
  | .dock => x.dock

/-- The values of the ports with one replaced. -/
def PerPort.set {α : Type} (x : PerPort α) (p : Port) (a : α) : PerPort α :=
  match p with
  | .handle => { x with handle := a }
  | .head => { x with head := a }
  | .dock => { x with dock := a }

/-- The engine of a port. -/
def engineOf (s : State) (p : Port) : Engine := s.ports.engine.get p

/-- ATTN_N is asserted while the handle's event set is not empty (R172). -/
def attnN (s : State) : Bool := !s.ports.engine.handle.events.isEmpty

/-- The port tier (R161): handle 2, head 3, dock as the strap sample gave (R121). -/
def portTier (s : State) : Port → Nat
  | .handle => 2
  | .head => 3
  | .dock => s.charge.dockTier

/-- The effective tier of a request (R161). -/
def effTier (s : State) (r : Req) : Nat := max (portTier s r.port) r.tier

/-- Whole milliseconds from now to a moment, 0 once it has passed. -/
def msLeft (s : State) (moment : Nat) : Nat := (moment - s.clock) / 1000

/-- Whole milliseconds since a moment, saturating at 65,535. -/
def msSince (s : State) (moment : Nat) : Nat := min 65535 ((s.clock - moment) / 1000)

/-- The head silence timer in ms: it runs in ACTIVE and STANDBY (R81). -/
def headSilence (s : State) : Nat := if asleep s then 0 else msSince s s.head.silentSince

/-- The handle silence timer in ms: it runs in ACTIVE and stands still from the moment the part left it (R151). No bound holds it
(DESIGN CHOICE, log entry 55, unsafe). -/
def handleSilence (s : State) : Nat := (s.power.handleStop.getD s.clock - s.faults.handleSince) / 1000

/-- The rest timer in ms (R182). -/
def restMs (s : State) : Nat :=
  match s.power.restSince with
  | some t => (s.clock - t) / 1000
  | none => 0

/-- The standby dwell timer in ms: it stands still while docked (R183). -/
def dwellMs (s : State) : Nat :=
  match s.power.dwellSince with
  | some t => if docked s then 0 else (s.clock - t) / 1000
  | none => 0

end Sys2Proof.Machine
end

