-- ==== Sys2Proof/Machine/Ops.lean ====
section
/-! DEFINITION. The operations every block shares: the fourteen channels, the lookup, moments, events, and the settling of
what follows from a step. -/

namespace Sys2Proof.Machine

/-! ### The fourteen channels -/

/-- One function on every channel. -/
def chanMap {α β : Type} (f : α → β) (x : PerChannel α) : PerChannel β :=
  ⟨f x.cell1, f x.cell2, f x.cell3, f x.cell4, f x.cell5, f x.cell6, f x.cell7, f x.packI, f x.motorI, f x.brushI,
    f x.tempA, f x.tempB, f x.tempStage, f x.dockV⟩

/-- One function on every pair of channels. -/
def chanZip {α β γ : Type} (f : α → β → γ) (x : PerChannel α) (y : PerChannel β) : PerChannel γ :=
  ⟨f x.cell1 y.cell1, f x.cell2 y.cell2, f x.cell3 y.cell3, f x.cell4 y.cell4, f x.cell5 y.cell5, f x.cell6 y.cell6,
    f x.cell7 y.cell7, f x.packI y.packI, f x.motorI y.motorI, f x.brushI y.brushI, f x.tempA y.tempA,
    f x.tempB y.tempB, f x.tempStage y.tempStage, f x.dockV y.dockV⟩

/-- The values in channel order, 1..14. -/
def chanList {α : Type} (x : PerChannel α) : List α :=
  [x.cell1, x.cell2, x.cell3, x.cell4, x.cell5, x.cell6, x.cell7, x.packI, x.motorI, x.brushI, x.tempA, x.tempB,
    x.tempStage, x.dockV]

/-- The seven cells. -/
def chanCells {α : Type} (x : PerChannel α) : List α :=
  [x.cell1, x.cell2, x.cell3, x.cell4, x.cell5, x.cell6, x.cell7]

/-- The channel numbers (1..14) that are marked. -/
def channelSet (x : PerChannel Bool) : List Nat :=
  ((chanList x).zipIdx 1).filterMap fun (b, i) => if b then some i else none

/-- Some cell channel is marked. -/
def anyCell (x : PerChannel Bool) : Bool := (chanCells x).any id

/-! ### Lookup tables -/

/-- The lookup of R18 beyond a point `a` that lies at or below `x`. -/
def lookupFrom (x : Int) (a : Point) : List Point → Nat
  | [] => a.p
  | b :: l =>
    if x < b.x then ((a.p : Int) + ((b.p : Int) - a.p) * (x - a.x) / (b.x - a.x)).toNat
    else lookupFrom x b l

/-- The lookup of a table at `x` (R18). -/
def lookup (l : List Point) (x : Int) : Nat :=
  match l with
  | [] => 0
  | a :: rest => if x ≤ a.x then a.p else lookupFrom x a rest

/-- The checks of a point list (R19): 2..8 points, strictly rising x within the table's range, p at most 100. -/
def pointsOk (lo hi : Int) (l : List Point) : Bool :=
  2 ≤ l.length && l.length ≤ 8 && l.all (fun q => lo ≤ q.x && q.x ≤ hi && q.p ≤ 100) &&
    (l.zip l.tail).all (fun (a, b) => a.x < b.x)

/-- The x range of a table (01, Lookup tables). -/
def tableOk (index : Nat) (l : List Point) : Bool :=
  if index = 0 then pointsOk 0 5000 l else pointsOk (-40) 125 l

/-- The content checks of a present profile (R66). -/
def contentsOk (c : ProfileContents) : Bool :=
  10 ≤ c.sMin && c.sMin ≤ 600 && c.sMin ≤ c.base && c.base ≤ c.top && c.top ≤ 600 && c.step ≤ 600 &&
    1 ≤ c.ramp && c.ramp ≤ 100 && c.bias.length ≤ 4 && c.bias.all (fun b => -300 ≤ b && b ≤ 300)

/-! ### Moments -/

/-- A moment has come: the clock stands at it, or later (log entry 2). -/
def reach (moment : Nat) (s : State) : State := s.setClock (max s.clock moment)

/-! ### Events -/

/-- An engine takes an event kind into its set when it subscribes to it (R171). -/
def Engine.take (k : EventKind) (e : Engine) : Engine :=
  if e.subscription.contains k then { e with events := kindSet (k :: e.events) } else e

/-- A block raises an event kind (R171). -/
def raise (k : EventKind) (s : State) : State :=
  s.setPorts { s.ports with
    engine := { handle := s.ports.engine.handle.take k, head := s.ports.engine.head.take k,
                dock := s.ports.engine.dock.take k } }

/-- Raise an event where a condition holds. -/
def raiseIf (c : Bool) (k : EventKind) (s : State) : State := if c then raise k s else s

/-- One engine replaced. -/
def setEngine (p : Port) (e : Engine) (s : State) : State :=
  s.setPorts { s.ports with engine := s.ports.engine.set p e }

/-! ### What follows from a step -/

/-- The brush grant is 0 whenever the rail is not ON (R76, R77). -/
def settleGrant (s : State) : State :=
  if headPwr s then s else s.setHead { s.head with grant := 0 }

/-- The rest timer counts while suction is at rest and is 0 at every other moment (R182). -/
def settleRest (s : State) : State :=
  s.setPower { s.power with
    restSince := if atRest s then some (s.power.restSince.getD s.clock) else none }

/-- CHARGE_STAGE at a change of the reported hold reason (R141), but at an entry into DORMANT or SHELF, where the event
sets are emptied (R174). -/
def settleReason (before s : State) : State :=
  raiseIf (holdReason before != holdReason s && !(asleep s && before.power.mode != s.power.mode)) .chargeStage s

/-- Everything that follows from a step that took `before` to `s`. -/
def settle (before s : State) : State := settleRest (settleReason before (settleGrant s))

end Sys2Proof.Machine
end

