-- ==== Sys2Proof/Machine/StoreOps.lean ====
section
/-! DEFINITION. The calibration store's shared operations (10): slot contents and their codes, programs, own saves, the load. -/

namespace Sys2Proof.Machine

/-! ### Codes of slot values (10, Slots and tags) -/

/-- A channel's pair: gain 3 bytes, offset 3 bytes signed. -/
def calBytes (c : CalPair) : List Byte := leBytes 3 c.gain ++ leSigned 3 c.offset

def calOfBytes (v : List Byte) : CalPair := ⟨leNat (v.take 3), leInt ((v.drop 3).take 3)⟩

/-- The ranges of a pair (R2). -/
def calOk (c : CalPair) : Bool :=
  1 ≤ c.gain && c.gain ≤ 2097151 && -65536 ≤ c.offset && c.offset ≤ 65535

/-- A list of points: a count byte, then x in 2 signed bytes and p in 1 byte each. -/
def pointsBytes (l : List Point) : List Byte :=
  leBytes 1 l.length ++ l.flatMap fun q => leSigned 2 q.x ++ leBytes 1 q.p

def pointsOfTriples : List Byte → Option (List Point)
  | [] => some []
  | a :: b :: c :: rest => (pointsOfTriples rest).map fun l => ⟨leInt [a, b], c.toNat⟩ :: l
  | _ => none

def pointsOfBytes (v : List Byte) : Option (List Point) :=
  match v with
  | [] => none
  | n :: rest => (pointsOfTriples rest).bind fun l => if l.length = n.toNat then some l else none

/-- A profile: present, generation, auto flag, S_min, base, step, max, ramp, bias count and the biases. -/
def profileBytes (p : Profile) : List Byte :=
  leBytes 1 p.present.toNat ++ leBytes 1 p.generation ++ leBytes 1 p.body.auto.toNat ++ leBytes 2 p.body.sMin ++
    leBytes 2 p.body.base ++ leBytes 2 p.body.step ++ leBytes 2 p.body.top ++ leBytes 1 p.body.ramp ++
    leBytes 1 p.body.bias.length ++ p.body.bias.flatMap (leSigned 2)

def biasOfPairs : List Byte → Option (List Int)
  | [] => some []
  | a :: b :: rest => (biasOfPairs rest).map fun l => leInt [a, b] :: l
  | _ => none

/-- A stored profile; `none` where a flag byte is neither 0 nor 1 or the bias count does not fit (log entry 14). -/
def profileOfBytes (v : List Byte) : Option Profile :=
  let flag (i : Nat) : Option Bool :=
    let b := v.getD i 0
    if b = 0 then some false else if b = 1 then some true else none
  let two (i : Nat) : Nat := leNat ((v.drop i).take 2)
  match flag 0, flag 2, biasOfPairs (v.drop 13) with
  | some present, some auto, some bias =>
    if bias.length = (v.getD 12 0).toNat then
      some ⟨present, (v.getD 1 0).toNat, ⟨auto, two 3, two 5, two 7, two 9, (v.getD 11 0).toNat, bias⟩⟩
    else none
  | _, _, _ => none

def levelsBytes (l : LevelParams) : List Byte := leBytes 3 l.l1 ++ leBytes 3 l.l2 ++ leBytes 3 l.l3

def multsBytes (l : LevelParams) : List Byte :=
  leBytes 2 l.hard ++ leBytes 2 l.lowPile ++ leBytes 2 l.highPile ++ leBytes 2 l.unknown

/-! ### Slots (R175) -/

/-- The lengths a tag admits (10, tag table); the count byte of a table or a profile is its owner's check (DESIGN CHOICE, log entry 58,
unsafe). -/
def lengthFits (t n : Nat) : Bool :=
  if t ≤ 14 then n == 6
  else if t ≤ 19 then n == 2
  else if t ≤ 22 then n == 1
  else if t ≤ 25 then 7 ≤ n && n ≤ 25 && n % 3 == 1
  else if t ≤ 33 then 13 ≤ n && n ≤ 21 && n % 2 == 1
  else if t = 34 then n == 9
  else if t = 35 then n == 8
  else n == 2

/-- The value bytes a READ of a BLANK slot returns: the tag's greatest length (DESIGN CHOICE, log entry 56, unsafe). -/
def slotRoom (t : Nat) : Nat :=
  if t ≤ 14 then 6 else if t ≤ 19 then 2 else if t ≤ 22 then 1 else if t ≤ 25 then 25 else if t ≤ 33 then 21
  else if t = 34 then 9 else if t = 35 then 8 else 2

/-- The check byte of an entry: the CRC-8 of tag, length and value. -/
def entryCheck (t : Nat) (v : List Byte) : Byte :=
  crc8 (BitVec.ofNat 8 t :: BitVec.ofNat 8 v.length :: v)

/-- The entry a program of tag `t` writes (R177). -/
def entryOf (t : Nat) (v : List Byte) : Slot := .entry t v.length v (entryCheck t v)

/-- The slot state, judged from the content (R175). -/
def slotState (t : Nat) : Slot → SlotState
  | .blank => .blank
  | .entry tag length value check =>
    if tag == t && length == value.length && lengthFits t length && check == entryCheck t value then .valid else .bad
  | .torn _ => .bad

def slotAt (slots : List Slot) (t : Nat) : Slot := slots.getD (t - 1) .blank

/-- The value handed to the owning block: none where the built-in default is handed (R176). -/
def handed (slots : List Slot) (t : Nat) : Option (List Byte) :=
  match slotAt slots t with
  | .entry tag length value check =>
    if slotState t (.entry tag length value check) = .valid then some value else none
  | _ => none

/-! ### Programs (R177, R178) -/

/-- The value of a tag as the owning block holds it. -/
def ownerValue (s : State) (t : Nat) : List Byte :=
  match t with
  | 15 => leBytes 2 s.budget.pBase
  | 16 => leBytes 2 s.budget.vKnee
  | 17 => leBytes 2 s.budget.vFloor
  | 18 => leBytes 2 s.dirt.params.fineTh
  | 19 => leBytes 2 s.dirt.params.coarseTh
  | 20 => leBytes 1 s.dirt.params.length
  | 21 => leBytes 1 s.dirt.params.wFine
  | 22 => leBytes 1 s.dirt.params.wCoarse
  | 23 => pointsBytes s.tables.ocv
  | 24 => pointsBytes s.tables.dis
  | 25 => pointsBytes s.tables.chg
  | 34 => levelsBytes s.dirt.levels
  | 35 => multsBytes s.dirt.levels
  | 36 => leBytes 2 s.bin.fFull
  | 37 => leBytes 2 s.suction.holdTime
  | 38 => leBytes 2 s.account.qFull
  | 39 => leBytes 2 s.account.cycleCount
  | 40 => leBytes 2 s.bin.f
  | _ =>
    if 26 ≤ t ∧ t ≤ 33 then profileBytes (profileAt s (t - 26))
    else calBytes ((chanList s.scan.cal).getD (t - 1) ⟨1, 0⟩)

/-- The store is busy (R177). -/
def storeBusy (s : State) : Bool := s.store.program.isSome

/-- A program of a tag starts with a value and takes 30 ms (R177). -/
def startProgram (t : Nat) (v : List Byte) (s : State) : State :=
  s.setStore { s.store with program := some ⟨t, v, s.clock + ms 30⟩ }

/-- A save of a tag: a program at once while the store is free, else a place at the end of the queue, once (R178). -/
def save (t : Nat) (s : State) : State :=
  if storeBusy s then
    if s.store.queue.contains t then s else s.setStore { s.store with queue := s.store.queue ++ [t] }
  else startProgram t (ownerValue s t) s

/-- Saves asked for at one step, in tag order (R177, R178). -/
def saveAll (ts : List Nat) (s : State) : State := ts.foldl (fun s t => save t s) s

/-- Save where a condition holds. -/
def saveIf (c : Bool) (t : Nat) (s : State) : State := if c then save t s else s

/-- A program completes: its slot is VALID, and the oldest queued tag starts with the value held now (R177). -/
def completeProgram (p : Program) (s : State) : State :=
  let done := { s.store with slots := s.store.slots.set (p.tag - 1) (entryOf p.tag p.value), program := none }
  match s.store.queue with
  | [] => s.setStore done
  | t :: rest => startProgram t (ownerValue s t) (s.setStore { done with queue := rest })

/-- A reset or a loss of power cuts a program short: its slot is BAD, and the save queue is lost (R181). -/
def abandonProgram (s : State) : State :=
  match s.store.program with
  | none => s.setStore { s.store with queue := [], locked := true }
  | some p =>
    (s.setStore { s.store with
      slots := s.store.slots.set (p.tag - 1) (.torn s.tornCount), program := none, queue := [], locked := true }).setTornCount
      (s.tornCount + 1)

/-! ### The load (R176) -/

/-- What the load hands on, checked by the owning blocks; `integrity` lists the tags handed to CAL_INTEGRITY in order. -/
structure Loaded where
  cal : PerChannel CalPair
  pBase : Nat
  vKnee : Nat
  vFloor : Nat
  sensing : SensingParams
  tables : Tables
  profiles : List Profile
  levels : LevelParams
  fFull : Nat
  holdTime : Nat
  qFull : Nat
  cycles : Nat
  f : Nat
  integrity : List Nat
  deriving DecidableEq, Repr

/-- A value with the tags its check hands to CAL_INTEGRITY. -/
def checked {α : Type} (ok : Bool) (t : Nat) (v default : α) : α × List Nat :=
  if ok then (v, []) else (default, [t])

/-- A number of a tag: the value handed to its owner, stored or default (R176), replaced by its default outside its range. -/
def loadNat (slots : List Slot) (t default lo hi : Nat) : Nat × List Nat :=
  let n := ((handed slots t).map leNat).getD default
  checked (lo ≤ n && n ≤ hi) t n default

/-- A channel's pair (R2). -/
def loadCal (slots : List Slot) (t : Nat) (default : CalPair) : CalPair × List Nat :=
  match handed slots t with
  | none => (default, [])
  | some v => checked (calOk (calOfBytes v)) t (calOfBytes v) default

/-- A lookup table (R20); a count byte that does not match the length fails the check (log entry 58). -/
def loadTable (slots : List Slot) (index : Nat) (default : List Point) : List Point × List Nat :=
  match handed slots (23 + index) with
  | none => (default, [])
  | some v =>
    match pointsOfBytes v with
    | none => (default, [23 + index])
    | some l => checked (tableOk index l) (23 + index) l default

/-- A profile entry (R65). -/
def loadProfile (slots : List Slot) (i : Nat) : Profile × List Nat :=
  let default := defaultProfiles.getD i noProfile
  match handed slots (26 + i) with
  | none => (default, [])
  | some v =>
    match profileOfBytes v with
    | none => (default, [26 + i])
    | some p => checked (!p.present || contentsOk p.body) (26 + i) p default

/-- The three budget parameters (R27). -/
def loadBudget (slots : List Slot) : (Nat × Nat × Nat) × (List Nat × List Nat × List Nat) :=
  let b := loadNat slots 15 450 100 600
  let k := loadNat slots 16 3400 3000 4000
  let f := loadNat slots 17 3000 2800 (k.1 - 50)
  if f.1 > k.1 - 50 then ((b.1, 3400, 3000), (b.2, k.2, f.2 ++ [16, 17]))
  else ((b.1, k.1, f.1), (b.2, k.2, f.2))

/-- The sensing parameters (R86). -/
def loadSensing (slots : List Slot) : SensingParams × List (List Nat) :=
  let a := loadNat slots 18 120 10 3000
  let b := loadNat slots 19 480 10 3000
  let l := loadNat slots 20 50 20 200
  let wf := loadNat slots 21 1 0 15
  let wc := loadNat slots 22 8 0 63
  if b.1 ≤ a.1 then (⟨120, 480, l.1, wf.1, wc.1⟩, [a.2, b.2 ++ [18, 19], l.2, wf.2, wc.2])
  else (⟨a.1, b.1, l.1, wf.1, wc.1⟩, [a.2, b.2, l.2, wf.2, wc.2])

/-- The level parameters (R92). -/
def loadLevels (slots : List Slot) : LevelParams × List (List Nat) :=
  let three := (handed slots 34).getD (levelsBytes defaultLevels)
  let four := (handed slots 35).getD (multsBytes defaultLevels)
  let level (i d : Nat) :=
    let v := leNat ((three.drop (3 * i)).take 3)
    checked (1 ≤ v && v ≤ 1000000) 34 v d
  let mult (i d : Nat) :=
    let v := leNat ((four.drop (2 * i)).take 2)
    checked (50 ≤ v && v ≤ 300) 35 v d
  let a := level 0 40
  let b := level 1 120
  let c := level 2 300
  let m0 := mult 0 100
  let m1 := mult 1 130
  let m2 := mult 2 170
  let m3 := mult 3 100
  let tags := a.2 ++ b.2 ++ c.2
  let mtags := m0.2 ++ m1.2 ++ m2.2 ++ m3.2
  if a.1 < b.1 && b.1 < c.1 then (⟨a.1, b.1, c.1, m0.1, m1.1, m2.1, m3.1⟩, [tags, mtags])
  else (⟨40, 120, 300, m0.1, m1.1, m2.1, m3.1⟩, [tags ++ [34, 34, 34], mtags])

/-- LEARNED_CAPACITY (R22): clamped into 1000..6000. -/
def loadCapacity (slots : List Slot) : Nat × List Nat :=
  match handed slots 38 with
  | none => (4000, [])
  | some v => checked (1000 ≤ leNat v && leNat v ≤ 6000) 38 (leNat v) (clampNat 1000 6000 (leNat v))

/-- A BAD slot's tag (R176). -/
def badTag (slots : List Slot) (t : Nat) : List Nat :=
  if slotState t (slotAt slots t) = .bad then [t] else []

/-- The tags from `t` on, in order: each BAD slot's tag, then the tags its owner's check hands on. -/
def integrityFrom (slots : List Slot) : Nat → List (List Nat) → List Nat
  | _, [] => []
  | t, c :: rest => badTag slots t ++ c ++ integrityFrom slots (t + 1) rest

/-- The load of R176. At the service reset the account takes nothing from it, so a clamp of LEARNED_CAPACITY forms no
condition there (`fresh` is the power-on reset). -/
def loadStore (fresh : Bool) (slots : List Slot) : Loaded :=
  let cal (t : Nat) := loadCal slots t ((chanList defaultCal).getD (t - 1) ⟨1, 0⟩)
  let budget := loadBudget slots
  let sensing := loadSensing slots
  let ocv := loadTable slots 0 defaultOcv
  let dis := loadTable slots 1 defaultDis
  let chg := loadTable slots 2 defaultChg
  let profiles := (List.range 8).map (loadProfile slots)
  let levels := loadLevels slots
  let fFull := loadNat slots 36 40000 1000 65535
  let hold := loadNat slots 37 250 50 1000
  let capacity := loadCapacity slots
  { cal :=
      ⟨(cal 1).1, (cal 2).1, (cal 3).1, (cal 4).1, (cal 5).1, (cal 6).1, (cal 7).1, (cal 8).1, (cal 9).1, (cal 10).1,
        (cal 11).1, (cal 12).1, (cal 13).1, (cal 14).1⟩
    pBase := budget.1.1, vKnee := budget.1.2.1, vFloor := budget.1.2.2
    sensing := sensing.1
    tables := ⟨ocv.1, dis.1, chg.1⟩
    profiles := profiles.map (·.1)
    levels := levels.1
    fFull := fFull.1
    holdTime := hold.1
    qFull := capacity.1
    cycles := ((handed slots 39).map leNat).getD 0
    f := ((handed slots 40).map leNat).getD 0
    integrity :=
      integrityFrom slots 1
        ((List.range 14).map (fun i => (cal (i + 1)).2) ++ [budget.2.1, budget.2.2.1, budget.2.2.2] ++ sensing.2 ++
          [ocv.2, dis.2, chg.2] ++ profiles.map (·.2) ++ levels.2 ++
          [fFull.2, hold.2, if fresh then capacity.2 else [], [], []]) }

/-- The replaced count: the BAD slots a load finds (R176). -/
def badCount (slots : List Slot) : Nat := ((List.range 40).filter fun i => slotState (i + 1) (slotAt slots (i + 1)) = .bad).length

/-- The blank count: the BLANK slots a load finds (R176). -/
def blankCount (slots : List Slot) : Nat :=
  ((List.range 40).filter fun i => slotState (i + 1) (slotAt slots (i + 1)) = .blank).length

end Sys2Proof.Machine
end

