-- ==== Sys2Proof/Machine/SuctionOps.lean ====
section
/-! DEFINITION. Shared operations of the suction controller (03), with the windows the dirt counter opens and discards at the
entries to RUN and the exits from it (R87, R88). -/

namespace Sys2Proof.Machine

/-! ### Windows at the bounds of RUN (05) -/

/-- A window opens with the parameters then standing (R86, R87); it is an economy window while economy sensing holds. -/
def openWindow (first : Bool) (s : State) : State :=
  s.setDirt { s.dirt with
    window := some { openedAt := s.clock, params := s.dirt.params, fine := 0, coarse := 0, economy := s.dirt.economy,
                     first := first } }

/-- Entry to RUN: the comparators are enabled, a FIRST_OF_RUN window opens, any dead time is cleared (R85, R87). -/
def dirtEnterRun (s : State) : State :=
  openWindow true (s.setDirt { s.dirt with strike := none })

/-- Exit from RUN: the window, the strike, the recent scores, the hold-down count and the level go (R88). -/
def dirtExitRun (s : State) : State :=
  raiseIf (s.dirt.level != 0) .levelChange
    (s.setDirt { s.dirt with window := none, strike := none, recent := [], holdDown := 0, level := 0 })

/-! ### Changes of the suction state -/

/-- The records of a change to another state: its timers, P_set and the time in state (R54..R56, R60, R68). -/
def suctionInto (now : Nat) (n : SuctionState) (x : Suction) : Suction :=
  { x with
    state := n
    since := now
    spinUpAt := if n = .spinUp then some (now + ms 1500) else none
    stallAt := none
    coastAt := if n = .coast then some (now + ms 3000) else none
    pSet := if n = .run then x.pSet else 0 }

/-- A change of the suction state (R54..R58): exits from and entries to RUN reach the dirt counter, SUCTION_STATE is raised. -/
def setSuctionState (n : SuctionState) (s : State) : State :=
  if s.suction.state = n then s
  else
    let s1 := if s.suction.state = .run then dirtExitRun s else s
    let s2 := s1.setSuction (suctionInto s1.clock n s1.suction)
    let s3 := if n = .run then dirtEnterRun s2 else s2
    raise .suctionState s3

/-- Entry to COAST, passed on to OFF where the speed is already below 2000 rpm (R56). -/
def enterCoast (s : State) : State :=
  let s1 := setSuctionState .coast s
  if s1.suction.speed < 2000 then setSuctionState .off s1 else s1

/-- Entry to SPIN_UP, passed on to RUN where the speed is already 30,000 rpm (R54). -/
def enterSpinUp (s : State) : State :=
  let s1 := setSuctionState .spinUp s
  if 30000 ≤ s1.suction.speed then setSuctionState .run s1 else s1

/-- The end of a demand (R49), without the change of state that goes with it. -/
def endDemand (reason : EndReason) (s : State) : State :=
  match s.suction.demand with
  | none => s
  | some _ => raise .demandEnded (s.setSuction { s.suction with demand := none, lastEnd := reason })

/-- The end of a demand takes SPIN_UP and RUN to COAST (R54, R55). -/
def endDemandCoast (reason : EndReason) (s : State) : State :=
  match s.suction.demand with
  | none => s
  | some _ =>
    let s1 := endDemand reason s
    if men s1 then enterCoast s1 else s1

/-- A TRIP_SUCTION action begins to hold (R53). -/
def tripSuction (s : State) : State := setSuctionState .tripped (endDemand .tripped s)

/-- An inhibit cause begins to hold (R53). -/
def inhibit (reason : EndReason) (s : State) : State :=
  if s.suction.state = .tripped ∨ s.suction.state = .inhibited then s
  else setSuctionState .inhibited (endDemand reason s)

/-- The state reached when nothing holds suction any longer: COAST at 2000 rpm or more, else OFF (R57). -/
def enterIdle (s : State) : State :=
  if 2000 ≤ s.suction.speed then setSuctionState .coast s else setSuctionState .off s

/-- An inhibit cause has stopped holding (R57). -/
def releaseInhibit (s : State) : State :=
  if s.suction.state = .inhibited ∧ inhibited s = false then enterIdle s else s

/-- TRIP_SUCTION has stopped holding (R57). -/
def releaseTrip (s : State) : State :=
  if s.suction.state = .tripped then
    if inhibited s then setSuctionState .inhibited s else enterIdle s
  else s

/-- The measured speed has been set (R54..R56): SPIN_UP completes, COAST ends, the stall timer starts or stops. -/
def speedChanged (s : State) : State :=
  match s.suction.state with
  | .spinUp => if 30000 ≤ s.suction.speed then setSuctionState .run s else s
  | .coast => if s.suction.speed < 2000 then setSuctionState .off s else s
  | .run =>
    s.setSuction { s.suction with
      stallAt := if s.suction.speed = 0 then some (s.suction.stallAt.getD (s.clock + ms 200)) else none }
  | _ => s

/-- The state a reset or a sleep entry chooses (R53, R69), without events. -/
def chosenState (s : State) : SuctionState :=
  if holds s .tripSuction then .tripped else if inhibited s then .inhibited else .off

end Sys2Proof.Machine
end

