-- ==== Sys2Proof/Machine/ChargeOps.lean ====
section
/-! DEFINITION. Shared operations of the charge controller (07): stages, holds, the stage choice, grants. -/

namespace Sys2Proof.Machine

/-- A full sync (R9), and the learn run it starts (R12). -/
def fullSync (s : State) : State :=
  s.setAccount { s.account with
    qRem := s.account.qFull, residue := 0, estimated := false, learnActive := true, learnTotal := 0 }

/-- The records of a change of stage (R130, R131, R137, R140). -/
def stageInto (n : ChargeStage) (c : Charge) : Charge :=
  { c with
    stage := n
    stageMs := 0
    temp := if n = .negotiating then false else c.temp
    termRun := if n = .cv ∨ n = .hold ∨ n = .faulted then 0 else c.termRun
    balance := if n = .cv ∨ n = .topped then c.balance else [] }

/-- A change of the stage raises CHARGE_STAGE (R141). -/
def setStage (n : ChargeStage) (s : State) : State :=
  if s.charge.stage = n then s else raise .chargeStage (s.setCharge (stageInto n s.charge))

/-- Both grants at 0. -/
def zeroGrants (s : State) : State := s.setCharge { s.charge with curGrant := 0, voltGrant := 0 }

/-- Entry into TOPPED (R129): total and precharge elapsed 0, the full sync, the save of the cycle count (R9, R15). -/
def enterTopped (s : State) : State :=
  let s1 := setStage .topped s
  save 39 (fullSync (s1.setCharge { s1.charge with totalMs := 0, preMs := 0 }))

/-- Entry into HOLD (R130). -/
def enterHold (s : State) : State :=
  let s1 := zeroGrants (setStage .hold s)
  s1.setCharge { s1.charge with termRun := 0, balance := [] }

/-- A hold cause has joined the set (R130). -/
def joinHold (s : State) : State := if s.charge.stage.charging then enterHold s else s

/-- The grants of the stage table (07, The charge session record). -/
def stageGrants (c : Charge) : Nat × Nat :=
  match c.cap with
  | none => (0, 0)
  | some cap =>
    let volt := min cap.voltage 29400
    match c.stage with
    | .precharge => (min cap.current 400, volt)
    | .cc | .cv => (min cap.current (c.icc * c.fCharge / 100), volt)
    | .topped => (min cap.current 300, volt)
    | _ => (0, 0)

/-- Both grants set from the stage then standing (R125, step 7). -/
def setGrants (s : State) : State :=
  s.setCharge { s.charge with curGrant := (stageGrants s.charge).1, voltGrant := (stageGrants s.charge).2 }

/-- The charge derating at T_hot of a measurement set (R18, R125). -/
def chargeDerating (s : State) (m : MeasurementSet) : Nat := lookup s.tables.chg m.tHot

/-- The stage the stage choice gives (R124). -/
def choiceOf (s : State) (m : MeasurementSet) : ChargeStage :=
  if evacuating s || s.charge.linkFlag then .hold
  else if chargeDerating s m = 0 then .hold
  else if m.vmin < 3000 then .precharge
  else if 4180 ≤ m.vmax then .cv
  else .cc

/-- The stage choice (R124); stage elapsed is 0 after it. Without a measurement set none is taken (log entry 62). -/
def stageChoice (s : State) : State :=
  match s.scan.latest with
  | none => s
  | some m =>
    let n := choiceOf s m
    let s1 := setStage n s
    let s2 := s1.setCharge { s1.charge with
      stageMs := 0, temp := n = .hold && chargeDerating s m = 0 && !(evacuating s || s.charge.linkFlag) }
    if n = .hold then enterHold s2 else s2

/-- A hold cause has left the set (R130). -/
def leaveHold (s : State) : State :=
  if s.charge.stage = .hold ∧ heldByCause s = false then
    if s.charge.cap.isSome ∧ entryHold s = false then setGrants (stageChoice s)
    else setStage .negotiating s
  else s

/-- A STOP_CHARGE action begins to hold (R138). -/
def stopCharge (s : State) : State :=
  if docked s then
    let s1 := zeroGrants (setStage .faulted s)
    s1.setCharge { s1.charge with termRun := 0, balance := [] }
  else s

/-- No STOP_CHARGE action holds any longer (R138). -/
def releaseCharge (s : State) : State :=
  if s.charge.stage = .faulted then
    let s1 := setStage .negotiating s
    let s2 := s1.setCharge { s1.charge with totalMs := 0, preMs := 0, cap := none, scanWait := true }
    if evacuating s2 then enterHold s2 else s2
  else s

/-- The charge controller takes f_charge and I_cc (R125, step 4). -/
def takeDerating (m : MeasurementSet) (s : State) : State :=
  s.setCharge { s.charge with
    fCharge := chargeDerating s m, icc := iccOf s.account.cycleCount }

/-- The TEMP cause, judged in the charging stages and in HOLD (R131). -/
def judgeTemp (s : State) : State :=
  let zero := s.charge.fCharge = 0
  if s.charge.stage.charging then
    if zero then enterHold (s.setCharge { s.charge with temp := true }) else s
  else if s.charge.stage = .hold then leaveHold (s.setCharge { s.charge with temp := zero })
  else s

/-- NEGOTIATING is left at a grant computation that finds no entry hold and a capability (R123). -/
def leaveNegotiating (s : State) : State :=
  if s.charge.stage = .negotiating ∧ entryHold s = false ∧ s.charge.cap.isSome then stageChoice s else s

/-- The grant computation made at a request and at a WRITE of the charge derating table: steps 4, 5 and 7 (R125). While no
measurement set exists it sets the grants alone (DESIGN CHOICE, log entry 62, unsafe). -/
def requestComputation (s : State) : State :=
  match s.scan.latest with
  | none => setGrants s
  | some m => setGrants (judgeTemp (leaveNegotiating (takeDerating m s)))

end Sys2Proof.Machine
end

