-- ==== Sys2Proof/Machine/FaultOps.lean ====
section
/-! DEFINITION. Shared operations of the fault supervisor (08): tests, filtering, latching, one-shots, retirement, actions. -/

namespace Sys2Proof.Machine

/-! ### Entries -/

/-- A condition qualifies (R147, R148): the entry latches, or is re-qualified. `oneShot` conditions count as absent at once (R149). -/
def qualify (oneShot : Bool) (seq : Nat) (value : Int) (e : FaultEntry) : FaultEntry :=
  { e with
    present := !oneShot
    latched := true
    latchSeq := if e.latched then e.latchSeq else some seq
    occurrences := min 255 (e.occurrences + 1)
    lastValue := some value }

/-- Retirement (R154): counts, last value, latch sequence and accumulator are kept. -/
def retire (e : FaultEntry) : FaultEntry := { e with latched := false, wide := false }

/-- Disabling (R156). -/
def disable (e : FaultEntry) : FaultEntry :=
  { e with enabled := false, acc := none, present := false, latched := false, wide := false }

/-- What a scan-judged channel is judged by at a scan (08, channel table). -/
structure Test where
  set : Bool
  retire : Bool
  filter : Nat
  value : Int
  deriving DecidableEq, Repr

/-- The accumulator of a set test at a scan (R145). -/
def accumulate (set : Bool) (elapsed : Nat) (acc : Option Nat) : Option Nat :=
  if set then
    match acc with
    | none => some 0
    | some a => some (min 65535 (a + elapsed))
  else none

/-- The filter of R145 at a scan: the entry qualifies, or keeps its accumulator. -/
def filterEntry (t : Test) (elapsed seq : Nat) (e : FaultEntry) : FaultEntry :=
  match accumulate t.set elapsed e.acc with
  | none => { e with acc := none }
  | some a => if t.filter ≤ a then { qualify false seq t.value e with acc := none } else { e with acc := some a }

/-- An entry judged at a scan (R145, R148). -/
def judgeEntry (t : Test) (elapsed seq : Nat) (e : FaultEntry) : FaultEntry :=
  if !e.enabled then e
  else if e.latched && e.present then
    if t.retire then filterEntry t elapsed seq { e with present := false } else e
  else filterEntry t elapsed seq e

/-! ### Actions (R152) -/

/-- TRIP_SUCTION and STOP_CHARGE are handed on where they begin or stop holding between two tables; TRIP_BRUSH and
LIMIT_SUCTION are read from the table by their blocks. -/
def applyActions (before : List FaultEntry) (s : State) : State :=
  let trip0 := holdsIn before .tripSuction
  let stop0 := holdsIn before .stopCharge
  let trip1 := holds s .tripSuction
  let stop1 := holds s .stopCharge
  let s1 := if trip1 && !trip0 then tripSuction s else if trip0 && !trip1 then releaseTrip s else s
  if stop1 && !stop0 then stopCharge s1 else if stop0 && !stop1 then releaseCharge s1 else s1

/-- Some entry has latched between two tables (R157). -/
def someLatched (before after : List FaultEntry) : Bool := (before.zip after).any fun (a, b) => !a.latched && b.latched

/-- Some entry has been retired between two tables (R157). -/
def someRetired (before after : List FaultEntry) : Bool := (before.zip after).any fun (a, b) => a.latched && !b.latched

/-- A new table takes the place of the old: events (R157) and actions (R152) follow. -/
def setEntries (l : List FaultEntry) (s : State) : State :=
  let before := s.faults.entries
  let s1 := s.setFaults { s.faults with entries := l }
  applyActions before (raiseIf (someRetired before l) .faultRetired (raiseIf (someLatched before l) .faultLatched s1))

/-- The entry of a channel. -/
def entryAt (s : State) (n : Nat) : FaultEntry := s.faults.entries.getD n clearEntry

/-- One entry replaced. -/
def setEntry (n : Nat) (e : FaultEntry) (s : State) : State := setEntries (s.faults.entries.set n e) s

/-- A one-shot condition handed to the supervisor (R149). -/
def oneShot (n : Nat) (value : Int) (s : State) : State :=
  if (entryAt s n).enabled then setEntry n (qualify true s.scan.seq value (entryAt s n)) s else s

/-- Channels that may be disabled (R156). -/
def disableable (n : Nat) : Bool := n == 8 || n == 9 || n == 12

/-- The clear tier of a channel (08, channel table). -/
def clearTier (n : Nat) : Nat :=
  if n = 9 ∨ n = 10 then 3
  else if n = 2 ∨ n = 4 ∨ n = 5 ∨ n = 6 ∨ n = 7 ∨ n = 8 ∨ n = 12 ∨ n = 17 then 2
  else 1

/-! ### The tests of a scan (08, channel table) -/

/-- The charge current: the magnitude of a negative pack current (00, Sign of current). -/
def chargeCurrent (m : MeasurementSet) : Int := if m.value.packI < 0 then -m.value.packI else 0

/-- Brush power in W (R80). -/
def brushPower (m : MeasurementSet) : Int := m.value.brushI * m.packV / 1000000

/-- The CHARGE_OC condition, with the grant standing before the scan's computation (R139). -/
def chargeOver (s : State) (m : MeasurementSet) : Bool := docked s && s.charge.curGrant + 500 < chargeCurrent m

/-- The BLOCKAGE condition (R63). -/
def blocked (s : State) : Bool :=
  s.suction.state == .run && 110000 ≤ s.suction.speed && 100 ≤ s.suction.pSet

/-- The HEAD_LINK condition (R81). -/
def headSilent (s : State) : Bool := s.power.mode == .active && s.head.announced && !s.head.frameSeen

/-- The HANDLE_LINK condition (R151). -/
def handleSilent (s : State) : Bool := s.power.mode == .active && 2000 ≤ handleSilence s

/-- The overcurrent filter: 400 ms in SPIN_UP, 20 ms in every other state (R146). -/
def spinUpFilter (s : State) : Nat := if s.suction.state = .spinUp then 400 else 20

/-- A test whose retire test is the failure of the set test. -/
def plainTest (set : Bool) (filter : Nat) (value : Int) : Test := ⟨set, !set, filter, value⟩

/-- The test of a channel at a scan; none for the one-shot channels (08, channel table). -/
def scanTest (s : State) (m : MeasurementSet) (n : Nat) : Option Test :=
  let spread := m.vmax - m.vmin
  let list := channelSet s.scan.sensing
  match n with
  | 0 => some ⟨4250 < m.vmax, m.vmax < 4150, 50, m.vmax⟩
  | 1 => some ⟨m.vmin < 2900, 3000 ≤ m.vmin, 500, m.vmin⟩
  | 2 => some (plainTest (35000 < m.value.packI) (spinUpFilter s) m.value.packI)
  | 3 => some (plainTest (chargeOver s m) 200 (chargeCurrent m))
  | 4 => some ⟨60 < m.tHot, m.tHot < 55, 1000, m.tHot⟩
  | 5 => some ⟨100 < m.value.tempStage, m.value.tempStage < 85, 500, m.value.tempStage⟩
  | 7 => some (plainTest (30000 < m.value.motorI) (spinUpFilter s) m.value.motorI)
  | 8 => some (plainTest (blocked s) 1000 s.suction.speed)
  | 9 => some (plainTest (s.head.grant + 10 < brushPower m) 100 (brushPower m))
  | 10 => some (plainTest (headSilent s) 500 (headSilence s))
  | 12 => some (plainTest (handleSilent s) 0 (handleSilence s))
  | 15 => some ⟨300 < spread, spread < 200, 5000, spread⟩
  | 16 => some ⟨!list.isEmpty, list.isEmpty, 0, (list.headD 0 : Nat)⟩
  | _ => none

/-- SENSE widens while it is latched and a cell or the pack current is in the sensing-fault list (R150). -/
def widen (s : State) (n : Nat) (e : FaultEntry) : FaultEntry :=
  if n = 16 ∧ e.latched ∧ (anyCell s.scan.sensing || s.scan.sensing.packI) then { e with wide := true } else e

/-- The whole table judged at a completed scan (R144..R150). -/
def judgeTable (s : State) (m : MeasurementSet) : List FaultEntry :=
  s.faults.entries.zipIdx.map fun (e, n) =>
    match scanTest s m n with
    | none => e
    | some t => widen s n (judgeEntry t m.elapsed m.seq e)

/-- The fault supervisor's work on a completed scan, whose sequence number it records (R5). -/
def judgeFaults (m : MeasurementSet) (s : State) : State :=
  setEntries (judgeTable s m) (s.setFaults { s.faults with lastSeq := m.seq })

end Sys2Proof.Machine
end

