-- ==== Sys2Proof/Machine/BudgetOps.lean ====
section
/-! DEFINITION. The budget evaluation (02) and the setpoint ramp that follows it (R60). -/

namespace Sys2Proof.Machine

/-- P_reserve (02, Budget parameters). -/
def pReserve : Nat := 6

/-- Stage 2 (R30). -/
def voltageDerating (vKnee vFloor : Nat) (vmin : Int) : Nat :=
  if (vKnee : Int) ≤ vmin then 100
  else if vmin ≤ vFloor then 0
  else ((vmin - vFloor) * 100 / ((vKnee : Int) - vFloor)).toNat

/-- The place of a floor type in a bias list (R32). -/
def FloorType.index : FloorType → Nat
  | .hard => 0
  | .lowPile => 1
  | .highPile => 2
  | .unknown => 3

/-- Stage 5 (R32). -/
def suctionTarget (c : ProfileContents) (boost : Bool) (level : Nat) (floor : FloorType) : Nat :=
  let raw : Int :=
    if boost then c.top
    else if c.auto then (c.base : Int) + (level : Int) * c.step + c.bias.getD floor.index 0
    else c.base
  (clampInt c.sMin c.top raw).toNat

/-- The idle draw of the runtime estimate (R40). -/
def idleDraw (c : ProfileContents) (floor : FloorType) : Nat := suctionTarget c false 0 floor

/-- The runtime in minutes at an energy and a draw (R40). -/
def runtimeOf (energy draw : Nat) : Nat := min 999 (energy * 60 / (draw * 1000))

/-- Stage 7 (R35). -/
def brushShare (s : State) (room : Nat) : Nat :=
  if s.head.attached && s.head.announced && s.head.type != .none && railState s == .on && !holds s .tripBrush then
    min s.head.claim (min s.head.type.cap room)
  else 0

/-- The results of an evaluation: the record, and whether it ends the demand (R38, R33). -/
structure Evaluation where
  record : BudgetRecord
  ends : Bool
  deriving DecidableEq, Repr

/-- One budget evaluation on a measurement set (R24, R29..R40). -/
def evaluate (s : State) (m : MeasurementSet) : Evaluation :=
  let demand := s.suction.demand.isSome
  let boost := match s.suction.demand with
    | some d => d.boostAt.isSome
    | none => false
  let fTemp := lookup s.tables.dis m.tHot
  let fVolt := voltageDerating s.budget.vKnee s.budget.vFloor m.vmin
  let pAllow := s.budget.pBase * fTemp * fVolt / 10000
  let pAvail := pAllow - pReserve
  let p := activeProfile s
  if p.present then
    let c := p.body
    let sTarget := suctionTarget c boost s.dirt.level s.head.floor
    let sFloor := if demand then min c.sMin pAvail else 0
    let b := brushShare s (pAvail - sFloor)
    let short := decide (pAvail < c.sMin)
    let ends := demand && short
    let full := min sTarget (pAvail - b)
    let grant := if demand && !ends then (if holds s .limitSuction then min full c.sMin else full) else 0
    let limited := demand && !ends && decide (pAvail - b < sTarget)
    let draw := if demand && !ends then grant + b + pReserve else idleDraw c s.head.floor + pReserve
    { record :=
        { scanSeq := m.seq, demand := demand, fTemp := fTemp, fVolt := fVolt, pAllow := pAllow, pAvail := pAvail,
          sTarget := sTarget, sFloor := sFloor, b := b, s := grant, runtime := runtimeOf (eRem s) draw,
          runtimeSeq := m.seq, limited := limited, short := short }
      ends := ends }
  else
    { record :=
        { scanSeq := m.seq, demand := demand, fTemp := fTemp, fVolt := fVolt, pAllow := pAllow, pAvail := pAvail,
          sTarget := 0, sFloor := 0, b := brushShare s pAvail, s := 0, runtime := 0, runtimeSeq := m.seq,
          limited := false, short := false }
      ends := demand }

/-- The setpoint's next value (R60). -/
def rampTo (grant pSet ramp : Nat) : Nat := if pSet < grant then min grant (pSet + ramp) else grant

/-- The setpoint follows the grant while the motor is driven (R60). -/
def followGrant (s : State) : State :=
  if men s then
    s.setSuction { s.suction with
      pSet := rampTo s.budget.record.s s.suction.pSet (activeProfile s).body.ramp }
  else s

/-- The evaluation is handed on in one step (R41): record, event, brush grant (R77), the end of the demand or the ramp. The event is
raised where the standing limited flag is clear, so a demand that follows another between two limited evaluations raises none
(R37 says both; DESIGN CHOICE, log entry 47, unsafe). -/
def evaluateBudget (m : MeasurementSet) (s : State) : State :=
  let v := evaluate s m
  let raised := v.record.limited && !s.budget.record.limited
  let s1 := raiseIf raised .budgetLimited (s.setBudget { s.budget with record := v.record })
  let s2 := s1.setHead { s1.head with grant := v.record.b }
  if v.ends then endDemandCoast .noBudget s2 else followGrant s2

/-- The runtime refresh at a STANDBY scan (R26, R40). -/
def refreshRuntime (m : MeasurementSet) (s : State) : State :=
  let p := activeProfile s
  let r := if p.present then runtimeOf (eRem s) (idleDraw p.body s.head.floor + pReserve) else 0
  s.setBudget { s.budget with record := { s.budget.record with runtime := r, runtimeSeq := m.seq } }

/-- The part leaves ACTIVE (R26). -/
def budgetLeaveActive (s : State) : State :=
  s.setBudget { s.budget with record := { s.budget.record with s := 0, b := 0, limited := false, short := false } }

end Sys2Proof.Machine
end

