-- ==== Sys2Proof/Machine/AccountOps.lean ====
section
/-! DEFINITION. The scan unit's corrections (R2..R4) and the energy account's work on a completed scan (R7..R14, R21). -/

namespace Sys2Proof.Machine

/-! ### The measurement set -/

/-- The clamping ranges of the channels (01, channel table). -/
def channelLo : PerChannel Int := ⟨0, 0, 0, 0, 0, 0, 0, -40000, 0, 0, -40, -40, -40, 0⟩

def channelHi : PerChannel Int :=
  ⟨5000, 5000, 5000, 5000, 5000, 5000, 5000, 40000, 40000, 5000, 125, 125, 125, 40000⟩

/-- A channel's value from its raw code and pair, before clamping (R2). -/
def correct (raw : Nat) (c : CalPair) : Int := ((raw * c.gain / 32768 : Nat) : Int) + c.offset

/-- The clamped values of a scan (R2, R3). -/
def channelValues (cal : PerChannel CalPair) (codes : PerChannel Nat) : PerChannel Int :=
  chanZip (fun f v => f v) (chanZip clampInt channelLo channelHi) (chanZip correct codes cal)

/-- A raw code at a converter limit (R3). -/
def suspectCode (raw : Nat) : Bool := raw == 0 || raw == 4095

def minList : List Int → Int
  | [] => 0
  | [a] => a
  | a :: b :: l => min a (minList (b :: l))

def maxList : List Int → Int
  | [] => 0
  | [a] => a
  | a :: b :: l => max a (maxList (b :: l))

/-- The measurement set of a scan (R4, R5). -/
def measure (s : State) (codes : PerChannel Nat) : MeasurementSet :=
  let v := channelValues s.scan.cal codes
  { seq := wrap32 (s.scan.seq + 1)
    value := v
    suspect := chanMap suspectCode codes
    vmin := minList (chanCells v)
    vmax := maxList (chanCells v)
    packV := (chanCells v).sum
    tHot := max v.tempA v.tempB
    elapsed := if s.scan.firstScan || s.scan.afterShelf then 0 else msSince s s.scan.lastDone }

/-- One channel's runs and sensing-fault state after a scan (R3). -/
structure Sense where
  suspectRun : Nat
  cleanRun : Nat
  fault : Bool
  deriving DecidableEq, Repr

def senseStep (suspect : Bool) (x : Sense) : Sense :=
  if suspect then
    let n := min 3 (x.suspectRun + 1)
    { suspectRun := n, cleanRun := 0, fault := x.fault || n == 3 }
  else
    let n := min 3 (x.cleanRun + 1)
    if x.fault then
      if n = 3 then { suspectRun := 0, cleanRun := 0, fault := false }
      else { suspectRun := x.suspectRun, cleanRun := n, fault := true }
    else { suspectRun := 0, cleanRun := n, fault := false }

/-- The scan unit at a completion (R3, R5). -/
def publish (m : MeasurementSet) (s : State) : State :=
  let before := chanZip (fun f c => f c) (chanZip Sense.mk s.scan.suspectRun s.scan.cleanRun) s.scan.sensing
  let after := chanZip senseStep m.suspect before
  s.setScan { s.scan with
    inProgress := none
    lastDone := s.clock
    seq := m.seq
    latest := some m
    suspectRun := chanMap Sense.suspectRun after
    cleanRun := chanMap Sense.cleanRun after
    sensing := chanMap Sense.fault after
    firstScan := false
    afterShelf := false }

/-! ### Counting -/

/-- One milliamp-hour in mA·ms (01, Counting charge). -/
def mAh : Int := 3600000

/-- Cycles are counted whenever the accumulator is Q_full or more (R14). -/
def countCycles (a : Account) : Account :=
  if a.qFull ≤ a.cycleAcc ∧ 0 < a.qFull then
    { a with cycleCount := min 65535 (a.cycleCount + a.cycleAcc / a.qFull), cycleAcc := a.cycleAcc % a.qFull }
  else a

/-- One discharge transfer (R7, R12, R14). -/
def dischargeTransfer (a : Account) : Account :=
  countCycles { a with
    residue := a.residue - mAh
    qRem := a.qRem - 1
    learnTotal := if a.learnActive then min 65535 (a.learnTotal + 1) else a.learnTotal
    cycleAcc := a.cycleAcc + 1 }

/-- One charge transfer (R7, R12). -/
def chargeTransfer (a : Account) : Account :=
  { a with
    residue := a.residue + mAh
    qRem := if a.qRem < a.qFull then a.qRem + 1 else a.qRem
    learnTotal := if a.learnActive then a.learnTotal - 1 else a.learnTotal }

/-- A function taken a number of times. -/
def times {α : Type} (f : α → α) : Nat → α → α
  | 0, a => a
  | n + 1, a => times f n (f a)

/-- The transfers of a scan, worked to the end (R7). -/
def takeTransfers (a : Account) : Account :=
  if mAh ≤ a.residue then times dischargeTransfer (a.residue / mAh).toNat a
  else if a.residue ≤ -mAh then times chargeTransfer (-a.residue / mAh).toNat a
  else a

/-- A counted scan (R7). -/
def countScan (m : MeasurementSet) (a : Account) : Account :=
  takeTransfers { a with residue := a.residue + m.value.packI * m.elapsed }

/-- The end of a learn run (R12, R13). -/
def endLearn (a : Account) : Account := { a with learnActive := false, learnTotal := 0 }

/-- A learn run is cancelled (R12): active no, learn total 0, charge-cancel accumulator 0. With no run active there is none to
cancel, and the accumulator stands. -/
def cancelLearn (a : Account) : Account :=
  { endLearn a with chargeCancel := if a.learnActive then 0 else a.chargeCancel }

/-- The charge-cancel accumulator (R12). With no run active it counts on past 1000 ms without a bound (DESIGN CHOICE, log entry
45, unsafe). -/
def chargeCancelStep (topped : Bool) (m : MeasurementSet) (a : Account) : Account :=
  let n := if 100 < chargeCurrent m ∧ m.suspect.packI = false ∧ topped = false then a.chargeCancel + m.elapsed else 0
  let b := { a with chargeCancel := n }
  if 1000 ≤ n ∧ a.learnActive then cancelLearn b else b

/-- The learning step (R13). -/
def learningStep (a : Account) : Account :=
  let bounded := clampNat (a.qFull * 90 / 100) (a.qFull * 110 / 100) a.learnTotal
  countCycles { endLearn a with qFull := clampNat 1000 6000 bounded }

/-- The empty sync (R10), with the learning step of a learn run (R13). -/
def emptySync (a : Account) : Account :=
  let b := { a with qRem := 0, residue := 0, estimated := false, emptyRun := 0 }
  if a.learnActive then learningStep b else b

/-- The empty-sync run at a scan (R10). -/
def emptyRunNext (vFloor : Nat) (m : MeasurementSet) (run : Nat) : Nat :=
  if m.vmin ≤ vFloor ∧ 1000 ≤ m.value.packI ∧ anyCell m.suspect = false ∧ m.suspect.packI = false then run + 1 else 0

/-- The initial estimate (R21). -/
def initialEstimate (ocv : List Point) (m : MeasurementSet) (a : Account) : Account :=
  { a with qRem := a.qFull * lookup ocv (m.packV / 7) / 100, residue := 0, estimated := true }

/-- How a completed scan is taken by the account (R8). -/
inductive Counting where
  | initial | afterShelf | suspect | counted
  deriving DecidableEq, Repr

def countingOf (s : State) (m : MeasurementSet) : Counting :=
  if s.scan.firstScan then .initial
  else if s.scan.afterShelf then .afterShelf
  else if m.suspect.packI then .suspect
  else .counted

/-- The account's first work on a scan: counting, or what stands in its place (R7, R8, R21, R23). -/
def accountCount (k : Counting) (ocv : List Point) (m : MeasurementSet) (a : Account) : Account :=
  match k with
  | .initial => initialEstimate ocv m a
  | .afterShelf => { cancelLearn a with estimated := true }
  | .suspect => { a with estimated := true }
  | .counted => countScan m a

/-- The energy account's whole work on a completed scan (R7..R14, R21); `k` was judged before the set was published. -/
def accountScan (k : Counting) (m : MeasurementSet) (s : State) : State :=
  let a0 := accountCount k s.tables.ocv m s.account
  let a1 := chargeCancelStep (s.charge.stage == .topped) m a0
  let run := if k = .afterShelf then 0 else emptyRunNext s.budget.vFloor m a1.emptyRun
  let synced := 5 ≤ run
  let a2 := if synced then emptySync a1 else { a1 with emptyRun := run }
  saveIf (synced && a1.learnActive) 38 (s.setAccount { a2 with lastSeq := m.seq })

end Sys2Proof.Machine
end

