-- ==== Sys2Proof/Machine/BinOps.lean ====
section
/-! DEFINITION. Shared operations of the bin account (06): changes of the fill with their events and saves, and the ends of an
evacuation. -/

namespace Sys2Proof.Machine

/-- The fill decile (R105). -/
def decileOf (percent : Nat) : Nat := percent / 10

/-- BIN_NEAR and BIN_FULL at a change of the fill percentage (R106). -/
def fillEvents (before after : Nat) (s : State) : State :=
  raiseIf (before < 100 && after == 100) .binFull (raiseIf (before < 90 && 90 ≤ after) .binNear s)

/-- F and F_full take new values: the fill is recomputed with its events (R105, R106). -/
def setFill (f fFull : Nat) (s : State) : State :=
  fillEvents (fill s) (fillOf f fFull) (s.setBin { s.bin with f := f, fFull := fFull })

/-- The change has moved the fill decile (R107). -/
def decileMoved (s : State) (f fFull : Nat) : Bool := decileOf (fill s) != decileOf (fillOf f fFull)

/-- A change of F, saved where the decile moves or where `always` asks for it (R107). -/
def changeF (f : Nat) (always : Bool) (s : State) : State :=
  saveIf (always || decileMoved s f s.bin.fFull) 40 (setFill f s.bin.fFull s)

/-- A closed window's credit (R104). -/
def creditWindow (fine coarse : Nat) (s : State) : State :=
  let f := min 65535 (s.bin.f + fine + coarse * 6)
  changeF f false s

/-- The evacuation state changes and EVAC_STATE is raised (R117). -/
def setEvac (e : EvacState) (s : State) : State :=
  if s.bin.evac = e then s else raise .evacState (s.setBin { s.bin with evac := e })

/-- An exchange closes (R114, R115, R116): timer stopped, outcome and cause recorded, EVAC_IDLE. -/
def closeEvac (o : EvacOutcome) (c : EvacCause) (s : State) : State :=
  setEvac .idle (s.setBin { s.bin with evacAt := none, lastOutcome := o, lastCause := c })

/-- The exchange has closed in the dock: the evacuation cause of suction and the EVAC hold cause go (R117, R130, R132). -/
def afterEvac (s : State) : State := leaveHold (releaseInhibit s)

/-- The evacuation indication has begun: EVAC joins the hold causes (R132). -/
def beginEvacHold (s : State) : State :=
  if s.charge.stage.charging || s.charge.stage == .negotiating then enterHold s else s

end Sys2Proof.Machine
end

