-- ==== Sys2Proof/Machine/PowerOps.lean ====
section
/-! DEFINITION. Shared operations of the power controller (11): the moves between the power states and what each block does
at them. -/

namespace Sys2Proof.Machine

/-- The scan period of a power state in µs (R1). -/
def scanPeriod : PowerMode → Option Nat
  | .active => some (ms 10)
  | .standby => some (ms 250)
  | .dormant => some (ms 60000)
  | .shelf => none

/-- A scan starts now, and the next after the period of the power state (R1). -/
def startScan (s : State) : State :=
  s.setScan { s.scan with
    inProgress := some s.clock, lastStart := s.clock, nextStart := (scanPeriod s.power.mode).map (s.clock + ·) }

/-- Entry into ACTIVE from another power state (R1, R26, R151, R182, R185, R186, R187). -/
def enterActive (w : WakeSource) (s : State) : State :=
  let fresh := asleep s
  let s1 := s.setScan { s.scan with afterShelf := s.scan.afterShelf || s.power.mode == .shelf }
  let s2 := s1.setPower { s1.power with
    mode := .active
    settlingUntil := if fresh then some (s1.clock + ms 100) else s1.power.settlingUntil
    restSince := none
    dwellSince := none
    lastWake := w
    activeSince := s1.clock
    shelfCount := none
    handleStop := none }
  let s3 := s2.setBudget { s2.budget with record := { s2.budget.record with short := false } }
  let s4 := s3.setFaults { s3.faults with handleSince := s3.clock }
  let s5 := if fresh then s4.setHead { s4.head with silentSince := s4.clock } else s4
  raise .powerState (startScan s5)

/-- The part is in STANDBY: it returns to ACTIVE (R182). -/
def leaveStandby (w : WakeSource) (s : State) : State :=
  if s.power.mode = .standby then enterActive w s else s

/-- A wake source clears the deferred-sleep flag (R184). -/
def cancelSleep (s : State) : State :=
  if s.power.sleepDue.isSome then s.setPower { s.power with sleepDue := none, lastSleepEnd := .cancelled } else s

/-- Entry into STANDBY (R182, R1, R26). -/
def enterStandby (s : State) : State :=
  let s1 := budgetLeaveActive s
  let s2 := s1.setPower { s1.power with mode := .standby, dwellSince := some s1.clock, handleStop := some s1.clock }
  let s3 := s2.setScan { s2.scan with nextStart := some (s2.scan.lastStart + ms 250) }
  raise .powerState s3

/-- The conditions of the entry into STANDBY, the rest timer apart (R182). -/
def mayStandby (s : State) : Bool := s.power.mode == .active && atRest s && s.charge.stage.restful

/-- The stage has just become UNDOCKED or TOPPED with the rest timer at its mark: STANDBY is entered at the same step (R182). -/
def standbyAtOnce (s : State) : State :=
  let r := settleRest s
  if mayStandby r && 60000 ≤ restMs r then enterStandby r else s

/-- Suction at the entry into DORMANT or SHELF (R69): the demand ends POWER, the capture stops, the state is chosen. -/
def suctionSleep (s : State) : State :=
  let s1 := endDemand .power s
  let s2 := setSuctionState (chosenState s1) s1
  s2.setSuction { s2.suction with speed := 0, lastPulse := none, stallAt := none }

/-- The dirt counter at the entry into DORMANT or SHELF (R102); WCL is low there (R96; log entry 42). The score sum and the
thresholds at the last close, which R102 does not name, are kept (DESIGN CHOICE, log entry 50, unsafe). -/
def dirtSleep (s : State) : State :=
  s.setDirt { s.dirt with
    ring := [], cursors := ⟨.invalid, .invalid, .invalid⟩, economy := false, wclUntil := none }

/-- The charge session at the entry into DORMANT (R143). -/
def chargeSleep (s : State) : State :=
  if docked s then
    let kept := holds s .stopCharge && s.charge.stage == .faulted
    s.setCharge { s.charge with
      stage := if kept then .faulted else .negotiating
      temp := if kept then s.charge.temp else false
      curGrant := 0, voltGrant := 0, balance := [], holdAt := none, scanWait := true, cap := none }
  else s

/-- An engine at the entry into DORMANT or SHELF (R174). -/
def Engine.stop (e : Engine) : Engine := { e with inProcess := none, waiting := [], sending := none, events := [] }

/-- The request ports at the entry into DORMANT or SHELF (R174). -/
def portsSleep (s : State) : State :=
  s.setPorts { s.ports with
    engine := { handle := s.ports.engine.handle.stop, head := s.ports.engine.head.stop, dock := s.ports.engine.dock.stop } }

/-- The entry into DORMANT or SHELF, one step (R185). `level` is HEAD_DET as sampled at the entry (R186). -/
def enterSleep (mode : PowerMode) (level : Bool) (s : State) : State :=
  let s1 := budgetLeaveActive s
  let s2 := s1.setPower { s1.power with
    mode := mode, settlingUntil := none, restSince := none, dwellSince := none, sleepDue := none, headSample := level,
    headLine := level, handleStop := some (s1.power.handleStop.getD s1.clock) }
  let s3 := s2.setScan { s2.scan with
    inProgress := none, nextStart := (scanPeriod mode).map (s2.clock + ·) }
  let s4 := dirtSleep (suctionSleep s3)
  let s5 := chargeSleep (s4.setHead (clearHead s4.clock))
  let s6 := s5.setAccount { s5.account with emptyRun := 0 }
  saveAll [39, 40] (portsSleep s6)

/-- The shelf test at a completed scan (R185). -/
def shelfTest (s : State) (m : MeasurementSet) : Bool :=
  !docked s && m.vmin < 2800 && !anyCell m.suspect

/-- The shelf test's filter (R185): a DORMANT check scan qualifies on its own. -/
def judgeShelf (m : MeasurementSet) (s : State) : State :=
  let acc := accumulate (shelfTest s m) m.elapsed s.power.shelfCount
  let qualifies : Bool := match acc with
    | none => false
    | some a => s.power.mode == .dormant || 1000 ≤ a
  let s1 := s.setPower { s.power with shelfCount := if qualifies then none else acc }
  if qualifies then enterSleep .shelf s1.power.headLine s1 else s1

end Sys2Proof.Machine
end

