-- ==== Sys2Proof/Machine/Clock.lean ====
section
/-! DEFINITION. Time on an empty queue (log entry 2): the request received and the part's own timers that have run out, as the
rows that name them, and the tick of the model's clock. -/

namespace Sys2Proof.Machine

/-- A moment that has come. -/
def passed (s : State) (moment : Option Nat) : Bool :=
  match moment with
  | none => false
  | some t => t ≤ s.clock

/-- The row that processes the request received on the handle port, whose response the engine forms by itself (R165). -/
def requestDue (s : State) : List Instr :=
  if asleep s then [] else ((engineOf s .handle).inProcess.map fun q => requestRow q.frame).toList

/-- The request that the part has received and, after it, its own timers that have run out, each as its row, in a fixed order (DESIGN
CHOICE, log entry 2, unsafe: where two run out at one moment the manual leaves the order open). -/
def dueEvents (s : State) : List Instr :=
  let at? (c : Bool) (e : Instr) : List Instr := if c then [e] else []
  requestDue s ++ at? (passed s s.power.settlingUntil) .settlingEnd ++
    at? (passed s s.suction.spinUpAt) .spinUpTimeout ++
    at? (passed s s.suction.stallAt) .stallTimeout ++
    at? (s.suction.state == .coast && passed s s.suction.coastAt) .coastTimeout ++
    at? (passed s (s.suction.lastPulse.map (· + ms 100))) .speedTimeout ++
    at? (passed s (s.suction.demand.map Demand.holdAt)) .demandExpired ++
    at? (passed s (s.suction.demand.bind Demand.boostAt)) .boostExpired ++
    at? (passed s (s.dirt.strike.map Strike.endAt)) .deadTimeEnd ++
    at? (passed s (s.dirt.window.map fun w => w.openedAt + ms w.params.length)) .windowClose ++
    at? (passed s s.dirt.wclUntil) .wclPulseEnd ++
    at? (evacuating s && passed s s.bin.evacAt) .evacTimeout ++
    at? (passed s s.charge.holdAt) .chargeHoldExpiry ++
    at? (passed s (s.store.program.map Program.endAt)) .storeProgramComplete ++
    at? (!asleep s && passed s s.power.sleepDue) (.sleepDue s.power.headLine) ++
    at? (s.power.mode == .standby && !docked s && passed s (s.power.dwellSince.map (· + ms 900000)))
      (.dwellExpiry s.power.headLine) ++
    at? (mayStandby s && passed s (s.power.restSince.map (· + ms 60000))) .standbyEntry ++
    at? (passed s s.scan.nextStart) .scanStart

/-- The first of them. -/
def dueEvent (s : State) : Option Instr := (dueEvents s).head?

/-- One microsecond passes (DESIGN CHOICE, log entry 2). -/
def tick (s : State) : State := s.setClock (s.clock + 1)

end Sys2Proof.Machine
end

