-- ==== Sys2Proof/Machine/Operands.lean ====
section
/-! DEFINITION. What a request goes through before and after its own effect (09): arrival, the order of checks, tiers, gates
with their bounds, and the answer. -/

namespace Sys2Proof.Machine

/-- What a request's own effect answers with (R167). `isReset` marks a taken RESET, which stays in process (R173). -/
structure Reply where
  code : Code
  payload : Payload
  isReset : Bool := false
  deriving DecidableEq, Repr

/-- An effect of a request: the state after it and its answer. -/
abbrev Effect := State × Reply

/-- A refusal with an empty payload; nothing changes (R166). -/
def fail (c : Code) (s : State) : Effect := (s, ⟨c, .empty, false⟩)

/-- A STATE refusal with its cause (R167). -/
def failCause (c : Cause) (s : State) : Effect := (s, ⟨.state, .cause c, false⟩)

/-- A TIER refusal with the tier needed (R167). -/
def failTier (n : Nat) (s : State) : Effect := (s, ⟨.tier, .needTier n, false⟩)

/-- An operation taken. -/
def done (p : Payload) (s : State) : Effect := (s, ⟨.ok, p, false⟩)

/-- OK, or CLAMPED where a value was brought into bounds (R166, step 10). -/
def okCode (clamped : Bool) : Code := if clamped then .clamped else .ok

/-! ### Arrival and answer (R163..R165) -/

/-- A response formed at a state: the flag shows the event set as it stands then (R167). -/
def formed (s : State) (p : Port) (tag : Nat) (a : Reply) (ofRequest : Bool) : Response :=
  { tag := tag, pending := !(engineOf s p).events.isEmpty, code := a.code, payload := a.payload, ofRequest := ofRequest }

/-- The response of the request in process is formed: the handle's request is no longer in process (R163), the others'
stays so until the response is transmitted (R164). -/
def answer (r : Req) (a : Reply) (s : State) : State :=
  let e := engineOf s r.port
  let resp := formed s r.port r.tag a true
  setEngine r.port
    { e with
      waiting := e.waiting ++ [resp]
      inProcess := if r.port = .handle then none else some ⟨r.tag, a.isReset, []⟩ } s

/-- The BUSY answers waiting on a transmit list (R164). -/
def busyWaiting (e : Engine) : Nat := (e.waiting.filter fun x => !x.ofRequest).length

/-- A request that arrives while its port's previous one is in process is answered BUSY and discarded (R165); on the head and
dock ports a BUSY response formed while four wait is dropped (R164). -/
def answerBusy (p : Port) (tag : Nat) (s : State) : State :=
  let e := engineOf s p
  if p ≠ .handle ∧ 4 ≤ busyWaiting e then s
  else setEngine p { e with waiting := e.waiting ++ [formed s p tag ⟨.busy, .empty, false⟩ false] } s

/-- What the handle reads of a transaction that it clocks on until the part's frame is out: the oldest waiting response, the empty
response where none waits, and 00h up to `n` bytes (R163). -/
def oldestOut (n : Nat) : List Response → Delivery
  | [] => .empty (zeroPadded n emptyFrame)
  | x :: _ => .response x (zeroPadded n x.bytes)

/-- What the handle reads of a transaction of `n` bytes: a response whose bytes do not all fit is lost, and the handle sees a
frame that fails its check (R163). -/
def clockedOut (n : Nat) (waiting : List Response) : Delivery :=
  if (outFrame waiting).length ≤ n then oldestOut n waiting else .failing ((outFrame waiting).take n)

/-- The first byte of a handle transaction removes the oldest waiting response from the list (R163); `seen` is what the handle
reads. -/
def clockOut (seen : List Response → Delivery) (s : State) : State :=
  let e := engineOf s .handle
  setEngine .handle { e with delivered := seen e.waiting, waiting := e.waiting.tail } s

/-- A frame that passes its check (R162): the head port's mark and silence timer (R81), the dock port's bad-frame count
(R135), the handle silence timer (R151). -/
def validFrame (p : Port) (s : State) : State :=
  match p with
  | .handle => s.setFaults { s.faults with handleSince := s.clock }
  | .head => s.setHead { s.head with frameSeen := true, silentSince := s.clock }
  | .dock => s.setCharge { s.charge with badFrames := 0 }

/-- A row that says it processes the request received before is that request's own row: what its operands and its frame's header say is
what the frame in process says (R163, R165). A row that is a frame of its own says nothing of the kind (log entry 8). -/
def claimed (s : State) (c : Instr) : Bool :=
  match requestOf c with
  | none => true
  | some r => !r.received || ((engineOf s .handle).inProcess.map fun q => requestRow q.frame) == some c

/-- The port's previous request is still in process (R165). -/
def portBusy (s : State) (r : Req) : Bool := !r.received && (engineOf s r.port).inProcess.isSome

/-- How many bytes the handle clocks at least in the transaction of a request row: the row's `clocks`, and never fewer than the 7 bytes
of the shortest request frame (09, Frame format). -/
def ownClocks (r : Req) : Nat := max 7 r.clocks

/-- A request's frame arrives, on the handle port in a transaction of its own, clocked on until the response is out; where a
HANDLE_TRANSACTION received it before, no frame arrives now (log entry 8). -/
def arrive (r : Req) (s : State) : State :=
  if r.received then s
  else validFrame r.port (if r.port = .handle then clockOut (oldestOut (ownClocks r)) s else s)

/-- The settling timer runs (R186). -/
def settling (s : State) : Bool := s.power.settlingUntil.isSome

/-- A valid request `r` of the row `c`, from its arrival to its answer: steps 2 and 3 of R166, then the request's own effect with the
checks of steps 4 to 10. In DORMANT and SHELF the frame is discarded unread (R174). A row that says it processes a request received
before, where another request or none is in process, changes nothing (log entry 3). -/
def serve (c : Instr) (r : Req) (whileSettling : Bool) (effect : State → Effect) (s : State) : State :=
  if asleep s || !claimed s c then s
  else
    let s1 := arrive r s
    if portBusy s r then answerBusy r.port r.tag s1
    else if settling s && !whileSettling then answer r ⟨.settling, .empty, false⟩ s1
    else answer r (effect s1).2 (settle s (effect s1).1)

/-! ### Gates (R169) -/

/-- The entry of a gate. -/
def gateAt (s : State) (n : Nat) : Gate := s.ports.gates.getD n spareGate

/-- An INVOKE of gate `n` (R169): tier, present (and what else the gate finds absent at step 7), payload length, bounds under
the policy; then its target judges it with the argument as bounded and whether it was clamped. -/
def viaGate (n : Nat) (r : Req) (arg : Nat) (missing : State → Bool) (target : Nat → Bool → State → Effect) (s : State) :
    Effect :=
  let g := gateAt s n
  if g.tierLimit < effTier s r then failTier g.tierLimit s
  else if !g.present || missing s then fail .absent s
  else if !r.fits then fail .range s
  else
    match g.bound with
    | none => target arg false s
    | some b =>
      if b.lo ≤ arg ∧ arg ≤ b.hi then target arg false s
      else
        match b.policy with
        | .refuse => fail .range s
        | .clamp => target (clampNat b.lo b.hi arg) true s

/-- Nothing else is absent at step 7. -/
def nothingMissing (_ : State) : Bool := false

/-! ### Carried fields -/

/-- A written field, or the standing one where the WRITE does not carry it. -/
def carried (w : Option Nat) (standing : Nat) : Nat := w.getD standing

end Sys2Proof.Machine
end

