-- ==== Sys2Proof/Machine/Bin.lean ====
section
/-! DEFINITION. The bin account's requests and its timer (06): BIN_RESET, the WRITE of BIN, the evacuation exchange. -/

namespace Sys2Proof.Machine

/-- BIN_RESET's own judgement (R108). -/
def binResetTarget (s : State) : Effect :=
  if evacuating s then failCause .evacuation s
  else
    let s1 := changeF 0 true s
    done (.fill s1.bin.f (fill s1)) s1

/-- BIN_RESET (R108). -/
def execBinReset (r : Req) (s : State) : Host.Outcome State Fault Refusal :=
  .next (serve (.binReset r) r false (viaGate 9 r 0 nothingMissing (fun _ _ => binResetTarget)) s)

/-- A WRITE of BIN (R109): a carried F_full needs a free store (R177). F is saved by R107. A WRITE that carries neither field is
answered OK and changes nothing (DESIGN CHOICE, log entry 51, unsafe). -/
def binWrite (r : Req) (f fFull : Option Nat) (s : State) : Effect :=
  let f1 := min 65535 (carried f s.bin.f)
  let full1 := carried fFull s.bin.fFull
  if 0 < effTier s r then failTier 0 s
  else if !r.fits then fail .range s
  else if fFull.isSome && (full1 < 1000 || 65535 < full1) then fail .range s
  else if fFull.isSome && storeBusy s then fail .busy s
  else
    done .empty (saveIf (f.isSome || decileMoved s f1 full1) 40 (saveIf fFull.isSome 36 (setFill f1 full1 s)))

/-- WRITE_BIN (R109). -/
def execWriteBin (r : Req) (f fFull : Option Nat) (s : State) : Host.Outcome State Fault Refusal :=
  .next (serve (.writeBin r f fFull) r false (binWrite r f fFull) s)

/-! ### Evacuation (R111..R115) -/

/-- The first cause that refuses an EVAC_REQUEST (R112). -/
def evacRefusal (s : State) : Option Cause :=
  if !docked s then some .notDocked
  else if evacuating s then some .inProgress
  else if s.suction.state ≠ .inhibited then some .suctionTripped
  else if !motorStopped s then some .motorTurning
  else none

/-- EVAC_REQUEST's own judgement (R111). -/
def evacRequestTarget (s : State) : Effect :=
  match evacRefusal s with
  | some c => failCause c s
  | none =>
    let s1 := setEvac .granted (s.setBin { s.bin with evacAt := some (s.clock + ms 60000) })
    let s2 := if s1.suction.stop then setEvac .running s1 else s1
    done (.evacTimer 60000) (beginEvacHold s2)

/-- EVAC_REQUEST (R111). -/
def execEvacRequest (r : Req) (s : State) : Host.Outcome State Fault Refusal :=
  .next (serve (.evacRequest r) r false (viaGate 7 r 0 nothingMissing (fun _ _ => evacRequestTarget)) s)

/-- The outcomes by their codes (R114). -/
def evacOutcomeOf (code : Nat) : EvacOutcome :=
  match code with
  | 0 => .complete
  | 1 => .reduced
  | _ => .aborted

/-- F after a report (R114). -/
def reportedF (o : EvacOutcome) (f : Nat) : Nat :=
  match o with
  | .complete => 0
  | .reduced => f / 4
  | _ => f

/-- EVAC_DONE's own judgement (R114). -/
def evacDoneTarget (code : Nat) (clamped : Bool) (s : State) : Effect :=
  if evacuating s then
    let o := evacOutcomeOf code
    let f := reportedF o s.bin.f
    let s1 := changeF f (f != s.bin.f) s
    let s2 := afterEvac (closeEvac o .reported s1)
    (s2, ⟨okCode clamped, .fill s2.bin.f (fill s2), false⟩)
  else fail .state s

/-- EVAC_DONE (R114). -/
def execEvacDone (r : Req) (code : Nat) (s : State) : Host.Outcome State Fault Refusal :=
  .next (serve (.evacDone r code) r false (viaGate 8 r code nothingMissing evacDoneTarget) s)

/-- EVAC_TIMEOUT (R115). -/
def execEvacTimeout (s : State) : Host.Outcome State Fault Refusal :=
  match s.bin.evacAt with
  | none => .next s
  | some t =>
    if evacuating s then .next (settle s (afterEvac (closeEvac .aborted .timer (reach t s)))) else .next s

end Sys2Proof.Machine
end

