-- ==== Sys2Proof/Machine/Charge.lean ====
section
/-! DEFINITION. The charge request, the charge hold's expiry, and bad frames on the dock port (07). -/

namespace Sys2Proof.Machine

/-- The answer to a taken charge request (R133). -/
def chargeAnswer (s : State) : Payload :=
  .chargeAnswer s.charge.stage (holdReason s) s.charge.curGrant s.charge.voltGrant s.charge.resyncRequired

/-- The link flag is cleared by a taken request, and LINK leaves the hold causes (R133). -/
def clearLink (s : State) : State :=
  if s.charge.linkFlag then leaveHold (s.setCharge { s.charge with linkFlag := false }) else s

/-- A request taken (R133, case 3). -/
def takeRequest (cap : Capability) (s : State) : State :=
  requestComputation (clearLink (s.setCharge { s.charge with cap := some cap, holdAt := some (s.clock + ms 1000) }))

/-- A request taken as a resync (R136). Its grant computation (R125) comes last, from the capability stored, as R133 has it (DEDUCED,
log entry 53, unsafe); the scan wait armed here leaves it no stage choice. -/
def resync (cap : Capability) (s : State) : State :=
  let s1 := s.setCharge { s.charge with resyncRequired := false, linkFlag := false }
  let s2 := if s1.charge.stage = .faulted then s1 else setStage .negotiating s1
  let s3 := s2.setCharge { s2.charge with
    curGrant := 0, voltGrant := 0, stageMs := 0, termRun := 0, balance := [], scanWait := true, cap := some cap,
    holdAt := some (s2.clock + ms 1000) }
  requestComputation (if evacuating s3 && s3.charge.stage == .negotiating then enterHold s3 else s3)

/-- CHARGE_REQUEST's own judgement (R133): the current as bounded by the gate, the voltage clamped here. -/
def chargeTarget (voltage : Nat) (flag : Bool) (current : Nat) (clamped : Bool) (s : State) : Effect :=
  let cap : Capability := ⟨current, min voltage 32000⟩
  let code := okCode (clamped || decide (32000 < voltage))
  if !docked s then failCause .notDocked s
  else if s.charge.resyncRequired then
    if flag then
      let s1 := resync cap s
      (s1, ⟨code, chargeAnswer s1, false⟩)
    else failCause .resync s
  else
    let s1 := takeRequest cap s
    (s1, ⟨code, chargeAnswer s1, false⟩)

/-- CHARGE_REQUEST (R133, R136). -/
def execChargeRequest (r : Req) (current voltage : Nat) (resync : Bool) (s : State) :
    Host.Outcome State Fault Refusal :=
  .next (serve (.chargeRequest r current voltage resync) r false (viaGate 6 r current nothingMissing (chargeTarget voltage resync)) s)

/-- The link flag is set and LINK joins the hold causes (R134, R135). -/
def setLink (s : State) : State := joinHold (s.setCharge { s.charge with linkFlag := true })

/-- The effect of an expiry by the stage (R134). -/
def holdExpired (s : State) : State :=
  match s.charge.stage with
  | .precharge | .cc | .cv =>
    let s1 := setLink s
    oneShot 11 0 (s1.setCharge { s1.charge with resyncRequired := true })
  | .topped | .hold => setLink s
  | _ => s

/-- CHARGE_HOLD_EXPIRY (R134). -/
def execChargeHoldExpiry (s : State) : Host.Outcome State Fault Refusal :=
  match s.charge.holdAt with
  | none => .next s
  | some t =>
    let s1 := reach t s
    .next (settle s (holdExpired (s1.setCharge { s1.charge with holdAt := none })))

/-- The third consecutive bad frame (R135). -/
def badFrameLimit (s : State) : State :=
  let s1 := if s.charge.stage.charging || s.charge.stage == .hold then setLink s else s
  oneShot 11 3 (s1.setCharge { s1.charge with resyncRequired := true })

/-- A frame on the dock port that fails its check (R135). -/
def badFrame (s : State) : State :=
  if docked s && decide (s.charge.badFrames < 3) then
    let s1 := s.setCharge { s.charge with badFrames := s.charge.badFrames + 1 }
    if s1.charge.badFrames = 3 then badFrameLimit s1 else s1
  else s

end Sys2Proof.Machine
end

