-- ==== Sys2Proof/Machine/Dirt.lean ====
section
/-! DEFINITION. The events of the dirt counter (05): strikes, the close of a window, the WCL pulse; and the reading of the
history ring. -/

namespace Sys2Proof.Machine

/-! ### Strikes (R85) -/

/-- A trip begins a strike when its comparator is powered: in an economy window only the coarse one is (R85, R97). -/
def strikeBegins (d : Dirt) (w : Window) (coarse : Bool) : Bool := coarse || !(d.economy || w.economy)

/-- STRIKE (R85); the comparators are enabled while a window is open. -/
def execStrike (coarse : Bool) (s : State) : Host.Outcome State Fault Refusal :=
  match s.dirt.window, s.dirt.strike with
  | none, _ => .next s
  | some _, some k => .next (s.setDirt { s.dirt with strike := some { k with coarse := k.coarse || coarse } })
  | some w, none =>
    if strikeBegins s.dirt w coarse then .next (s.setDirt { s.dirt with strike := some ⟨s.clock + 200, coarse⟩ })
    else .next s

/-- A strike counted in the open window at the end of its dead time (R85). -/
def countStrike (economy : Bool) (k : Strike) (w : Window) : Window :=
  if k.coarse then { w with coarse := min 65535 (w.coarse + 1) }
  else if economy || w.economy then w
  else { w with fine := min 65535 (w.fine + 1) }

/-- DEAD_TIME_END (R85). -/
def execDeadTimeEnd (s : State) : Host.Outcome State Fault Refusal :=
  match s.dirt.strike with
  | none => .next s
  | some k =>
    let s1 := reach k.endAt s
    .next (s1.setDirt { s1.dirt with strike := none, window := s1.dirt.window.map (countStrike s1.dirt.economy k) })

/-! ### The close of a window (R89..R96) -/

/-- The raw value (R89). -/
def rawValue (w : Window) : Nat := min 65535 (w.fine * w.params.wFine + w.coarse * w.params.wCoarse)

/-- score_w (R89). -/
def scoreOf (raw grant : Nat) : Nat := raw * 200 / (if 50 ≤ grant then grant else 50)

/-- The list of recent scores after a close (R91). -/
def recentNext (l : List Nat) (score : Nat) : List Nat :=
  if 4 ≤ l.length then (l ++ [score]).tail else l ++ [score]

/-- The multiplier of a floor type (R92). -/
def LevelParams.multiplier (l : LevelParams) : FloorType → Nat
  | .hard => l.hard
  | .lowPile => l.lowPile
  | .highPile => l.highPile
  | .unknown => l.unknown

/-- The three effective thresholds (R93). -/
def effective (l : LevelParams) (f : FloorType) : Nat × Nat × Nat :=
  (l.l1 * l.multiplier f / 100, l.l2 * l.multiplier f / 100, l.l3 * l.multiplier f / 100)

/-- The highest level whose effective threshold the sum reaches (R93). -/
def reachedLevel (e : Nat × Nat × Nat) (sum : Nat) : Nat :=
  if e.2.2 ≤ sum then 3 else if e.2.1 ≤ sum then 2 else if e.1 ≤ sum then 1 else 0

/-- The effective threshold of a level (R94). -/
def levelMark (e : Nat × Nat × Nat) (level : Nat) : Nat :=
  (if level = 1 then e.1 else if level = 2 then e.2.1 else e.2.2) * 3 / 4

/-- The level and the hold-down count after a close (R93, R94). -/
def levelNext (e : Nat × Nat × Nat) (sum level holdDown : Nat) : Nat × Nat :=
  if level < reachedLevel e sum then (reachedLevel e sum, 0)
  else if level = 0 then (0, holdDown)
  else if sum < levelMark e level then
    if 10 ≤ holdDown + 1 then (level - 1, 0) else (level, holdDown + 1)
  else (level, 0)

/-- The window record of a close (R90). -/
def recordOf (s : State) (w : Window) (level : Nat) : WindowRecord :=
  { seq := s.dirt.seq, fine := w.fine, coarse := w.coarse, floor := s.head.floor, s := s.budget.record.s,
    score := scoreOf (rawValue w) s.budget.record.s, level := level, economy := w.economy, first := w.first }

/-- The ring with a record appended: at most 64, emptied first at a counter wrap (R90). -/
def ringNext (ring : List WindowRecord) (x : WindowRecord) : List WindowRecord :=
  if x.seq = 0 then [x] else if 64 ≤ ring.length then (ring ++ [x]).tail else ring ++ [x]

/-- The dirt counter after a close, the next window apart (R89..R94, R96). -/
def closedDirt (s : State) (w : Window) : Dirt :=
  let score := scoreOf (rawValue w) s.budget.record.s
  let recent := recentNext s.dirt.recent score
  let e := effective s.dirt.levels s.head.floor
  let next := levelNext e recent.sum s.dirt.level s.dirt.holdDown
  let wrapped := s.dirt.seq = 0 ∧ s.dirt.ring ≠ []
  { s.dirt with
    level := next.1
    holdDown := next.2
    recent := recent
    scoreSum := recent.sum
    e1 := e.1
    e2 := e.2.1
    e3 := e.2.2
    seq := wrap32 (s.dirt.seq + 1)
    ring := ringNext s.dirt.ring (recordOf s w next.1)
    cursors := if wrapped then ⟨.invalid, .invalid, .invalid⟩ else s.dirt.cursors
    wclUntil := some (s.clock + 20) }

/-- A close, in the order of R95, and the opening of the next window (R87). -/
def closeWindow (w : Window) (s : State) : State :=
  let s1 := s.setDirt (closedDirt s w)
  let s2 := creditWindow (if w.economy then 0 else w.fine) w.coarse s1
  openWindow false (raiseIf (s1.dirt.level != s.dirt.level) .levelChange s2)

/-- WINDOW_CLOSE (R95). -/
def execWindowClose (s : State) : Host.Outcome State Fault Refusal :=
  match s.dirt.window with
  | none => .next s
  | some w => .next (settle s (closeWindow w (reach (w.openedAt + ms w.params.length) s)))

/-- WCL_PULSE_END (R96). -/
def execWclPulseEnd (s : State) : Host.Outcome State Fault Refusal :=
  match s.dirt.wclUntil with
  | none => .next s
  | some t =>
    let s1 := reach t s
    .next (s1.setDirt { s1.dirt with wclUntil := none })

/-! ### Reading the ring (R99, R100) -/

/-- The cursor a READ of HISTORY sets (R99); `none` where the selector is answered RANGE. -/
def cursorOf (d : Dirt) : Selector → Option Cursor
  | .sequence n => some (.at n)
  | .newest k =>
    if 63 < k then none
    else
      match d.ring.getLast? with
      | none => some (.at d.seq)
      | some x => if k ≤ x.seq then some (.at (x.seq - k)) else some .oldest
  | .other _ => none

/-- The cursor after step 1 of R100, and whether SKIPPED is set. -/
def cursorStart (d : Dirt) (c : Cursor) : Nat × Bool :=
  match d.ring.head?, c with
  | some x, .at n => if n < x.seq then (x.seq, true) else (n, false)
  | some x, _ => (x.seq, true)
  | none, .at n => (n, false)
  | none, _ => (d.seq, false)

/-- The records an answer takes (R100, step 2). -/
def takeRecords (ring : List WindowRecord) (start : Nat) : List WindowRecord :=
  (ring.filter fun x => start ≤ x.seq).take 2

/-- The cursor after step 3 of R100. -/
def cursorAfter (start : Nat) (taken : List WindowRecord) : Nat :=
  match taken.getLast? with
  | none => start
  | some x => x.seq + 1

/-- END (R100, step 4). -/
def atEnd (ring : List WindowRecord) (cursor : Nat) : Bool :=
  match ring.getLast? with
  | none => true
  | some x => x.seq < cursor

/-- The answer formed from a valid cursor (R100). -/
def readRing (p : Port) (c : Cursor) (s : State) : Effect :=
  let start := cursorStart s.dirt c
  let taken := takeRecords s.dirt.ring start.1
  let after := cursorAfter start.1 taken
  done (.history taken (atEnd s.dirt.ring after) start.2)
    (s.setDirt { s.dirt with cursors := s.dirt.cursors.set p (.at after) })

/-- A READ of HISTORY (R99). -/
def historyEffect (r : Req) (sel : Selector) (s : State) : Effect :=
  if !r.fits then fail .range s
  else
    match cursorOf s.dirt sel with
    | none => fail .range s
    | some c => readRing r.port c s

/-- A READ_CONTINUE of HISTORY (R100). -/
def continueEffect (r : Req) (s : State) : Effect :=
  if !r.fits then fail .range s
  else
    match s.dirt.cursors.get r.port with
    | .invalid => fail .state s
    | c => readRing r.port c s

/-- READ_HISTORY (R99). -/
def execReadHistory (r : Req) (sel : Selector) (s : State) : Host.Outcome State Fault Refusal :=
  .next (serve (.readHistory r sel) r false (historyEffect r sel) s)

/-- READ_CONTINUE (R100). -/
def execReadContinue (r : Req) (s : State) : Host.Outcome State Fault Refusal :=
  .next (serve (.readContinue r) r false (continueEffect r) s)

end Sys2Proof.Machine
end

