-- ==== Sys2Proof/Machine/HeadGates.lean ====
section
/-! DEFINITION. The head interface's requests: the announce, BRUSH_CLAIM, FLOOR_REPORT (04). -/

namespace Sys2Proof.Machine

/-- The head types by their announce codes (04, type table). -/
def headTypeOf (code : Nat) : HeadType :=
  match code with
  | 1 => .motorBrush
  | 2 => .softRoller
  | _ => .none

/-- The state checks of an announce, in order (R74). -/
def announceRefusal (h : Head) (typeCode headId : Nat) : Option Cause :=
  if !h.attached then some .detached
  else if !h.identRead then some .noIdent
  else if h.announced && (h.type != headTypeOf typeCode || h.id != some headId) then some .announced
  else none

/-- A WRITE of HEAD (R74, R75): KIND on the other ports. -/
def announceEffect (r : Req) (typeCode headId firmware : Nat) (s : State) : Effect :=
  if r.port ≠ .head then fail .kind s
  else if !r.fits || 2 < typeCode then fail .range s
  else
    match announceRefusal s.head typeCode headId with
    | some c => failCause c s
    | none =>
      if s.head.announced then done .empty (s.setHead { s.head with firmware := some firmware })
      else
        done .empty (raise .headChange (s.setHead { s.head with
          announced := true, type := headTypeOf typeCode, id := some headId, firmware := some firmware }))

/-- ANNOUNCE (R74, R75). -/
def execAnnounce (r : Req) (typeCode headId firmware : Nat) (s : State) : Host.Outcome State Fault Refusal :=
  .next (serve (.announce r typeCode headId firmware) r false (announceEffect r typeCode headId firmware) s)

/-- BRUSH_CLAIM's own judgement (R78). -/
def claimTarget (watts : Nat) (clamped : Bool) (s : State) : Effect :=
  if s.head.announced then
    (s.setHead { s.head with claim := watts },
      ⟨okCode (clamped || decide (s.head.type.cap < watts)), .claim watts s.head.type.cap s.head.grant, false⟩)
  else fail .state s

/-- BRUSH_CLAIM (R78). -/
def execBrushClaim (r : Req) (watts : Nat) (s : State) : Host.Outcome State Fault Refusal :=
  .next (serve (.brushClaim r watts) r false (viaGate 4 r watts nothingMissing claimTarget) s)

/-- The floor types by their codes (R79). -/
def floorOf (code : Nat) : FloorType :=
  match code with
  | 0 => .hard
  | 1 => .lowPile
  | 2 => .highPile
  | _ => .unknown

/-- FLOOR_REPORT's own judgement (R79). -/
def floorTarget (code : Nat) (clamped : Bool) (s : State) : Effect :=
  if s.head.announced then (s.setHead { s.head with floor := floorOf code }, ⟨okCode clamped, .empty, false⟩)
  else fail .state s

/-- FLOOR_REPORT (R79). -/
def execFloorReport (r : Req) (code : Nat) (s : State) : Host.Outcome State Fault Refusal :=
  .next (serve (.floorReport r code) r false (viaGate 5 r code nothingMissing floorTarget) s)

end Sys2Proof.Machine
end

