-- ==== Sys2Proof/Machine/Lines.lean ====
section
/-! DEFINITION. The events of the head, wake and dock lines (04, 07, 11) and the timers of the power controller (11). -/

namespace Sys2Proof.Machine

/-! ### Head presence (R71, R72) -/

/-- The record an attach leaves (R71). -/
def attachRecord (now : Nat) (h : Head) : Head :=
  { h with
    attached := true, identRead := false, announced := false, type := .none, id := none, firmware := none,
    floor := .unknown, claim := 0, grant := 0, silentSince := now }

/-- The record a detach leaves (R72). -/
def detachRecord (h : Head) : Head :=
  { h with
    attached := false, identRead := false, announced := false, type := .none, id := none, firmware := none,
    floor := .unknown, claim := 0, grant := 0, frameSeen := false }

/-- At a detach both head conditions are handed on as absent (R144). -/
def dropCondition (e : FaultEntry) : FaultEntry := { e with present := false, acc := none }

/-- The table after a detach (R144): BRUSH_OVERDRAW and HEAD_LINK absent. -/
def detachFaults (s : State) : State :=
  s.setFaults { s.faults with
    entries := (s.faults.entries.set 9 (dropCondition (entryAt s 9))).set 10 (dropCondition (entryAt s 10)) }

/-- The level HEAD_DET was last reported at. -/
def headLine (level : Bool) (s : State) : State := s.setPower { s.power with headLine := level }

/-- HEAD_ATTACH (R71, R182, R184). -/
def execHeadAttach (s : State) : Host.Outcome State Fault Refusal :=
  if asleep s || s.head.attached then .next s
  else
    let s1 := raise .headChange (s.setHead (attachRecord s.clock s.head))
    .next (settle s (leaveStandby .head (cancelSleep (headLine true s1))))

/-- HEAD_DETACH (R72, R144). -/
def execHeadDetach (s : State) : Host.Outcome State Fault Refusal :=
  if s.head.attached then
    .next (settle s (headLine false (detachFaults (raise .headChange (s.setHead (detachRecord s.head))))))
  else .next s

/-! ### Waking (R186) -/

/-- HEAD_DET_WAKE (R186): in DORMANT, a level that differs from the one sampled at the entry. -/
def execHeadDetWake (level : Bool) (s : State) : Host.Outcome State Fault Refusal :=
  if s.power.mode = .dormant ∧ level ≠ s.power.headSample then
    .next (settle s (enterActive .head (headLine level s)))
  else .next s

/-- WAKE_N (R184, R186). -/
def execWakeN (s : State) : Host.Outcome State Fault Refusal :=
  match s.power.mode with
  | .dormant => .next (settle s (enterActive .wake s))
  | .shelf => .next s
  | _ => .next (settle s (cancelSleep s))

/-! ### The dock rail (R119..R122) -/

/-- The record a dock detect opens (R120), with the strap sampled (R121); I_cc stands as the cycle count gave it undocked. -/
def sessionRecord (strap : Bool) (icc : Nat) (c : Charge) : Charge :=
  { c with
    stage := .negotiating, temp := false, curGrant := 0, voltGrant := 0, cap := none, stageMs := 0, totalMs := 0,
    preMs := 0, termRun := 0, holdAt := none, badFrames := 0, resyncRequired := false, linkFlag := false,
    scanWait := true, balance := [], dockTier := if strap then 0 else 1, icc := icc }

/-- A dock detect opens a session (R120): suction is inhibited, and a STOP_CHARGE that holds faults the session (R138). -/
def openSession (strap : Bool) (s : State) : State :=
  let s1 := inhibit .docked (s.setCharge (sessionRecord strap (iccOf s.account.cycleCount) s.charge))
  if holds s1 .stopCharge then stopCharge s1 else s1

/-- The part is not in ACTIVE: a dock detect wakes it (R120, R182, R186). -/
def wakeForDock (s : State) : State := if s.power.mode = .active then s else enterActive .dock s

/-- DOCK_DETECT (R120, R184). -/
def execDockDetect (strap : Bool) (s : State) : Host.Outcome State Fault Refusal :=
  if docked s then .next s
  else .next (settle s (raise .chargeStage (openSession strap (wakeForDock (cancelSleep s)))))

/-- The record an undock leaves (R122). -/
def undockRecord (c : Charge) : Charge :=
  { c with
    stage := .undocked, temp := false, curGrant := 0, voltGrant := 0, cap := none, termRun := 0, holdAt := none,
    badFrames := 0, resyncRequired := false, linkFlag := false, scanWait := false, balance := [], dockTier := 1,
    fCharge := 0 }

/-- The factory segment relocks (R180). -/
def relock (s : State) : State := s.setStore { s.store with locked := true }

/-- An undock in STANDBY restarts the dwell timer (R182). -/
def restartDwell (s : State) : State :=
  if s.power.mode = .standby then s.setPower { s.power with dwellSince := some s.clock } else s

/-- UNDOCK (R122, R116, R57, R180, R182). -/
def execUndock (s : State) : Host.Outcome State Fault Refusal :=
  if docked s then
    let s1 := raise .chargeStage (s.setCharge (undockRecord s.charge))
    let s2 := if evacuating s1 then closeEvac .aborted .undocked s1 else s1
    .next (settle s (standbyAtOnce (restartDwell (releaseInhibit (relock s2)))))
  else .next s

/-! ### The power controller's timers (R182..R186) -/

/-- SETTLING_END (R186). -/
def execSettlingEnd (s : State) : Host.Outcome State Fault Refusal :=
  match s.power.settlingUntil with
  | none => .next s
  | some t =>
    let s1 := reach t s
    .next (settle s (s1.setPower { s1.power with settlingUntil := none }))

/-- STANDBY_ENTRY (R182). -/
def execStandbyEntry (s : State) : Host.Outcome State Fault Refusal :=
  match s.power.restSince with
  | none => .next s
  | some t =>
    if mayStandby s then .next (settle s (enterStandby (reach (t + ms 60000) s))) else .next s

/-- DWELL_EXPIRY (R183, R185). -/
def execDwellExpiry (headDet : Bool) (s : State) : Host.Outcome State Fault Refusal :=
  match s.power.dwellSince with
  | none => .next s
  | some t =>
    if s.power.mode = .standby ∧ docked s = false then
      .next (settle s (enterSleep .dormant headDet (reach (t + ms 900000) s)))
    else .next s

/-- The refusal conditions of the SLEEP gate, in order (R184). -/
def sleepRefusal (s : State) : Option Cause :=
  if !atRest s then some .suction else if s.charge.stage.filling then some .charging else none

/-- The last sleep end recorded. -/
def sleepEnds (e : SleepEnd) (s : State) : State := s.setPower { s.power with sleepDue := none, lastSleepEnd := e }

/-- SLEEP_DUE (R184, R185). -/
def execSleepDue (headDet : Bool) (s : State) : Host.Outcome State Fault Refusal :=
  match s.power.sleepDue with
  | none => .next s
  | some t =>
    let s1 := reach t s
    if asleep s then .next s
    else if (sleepRefusal s1).isSome then .next (settle s (sleepEnds .refusedAtDue s1))
    else .next (settle s (enterSleep .dormant headDet (sleepEnds .entered s1)))

/-- SLEEP (gate G3, R184). -/
def sleepTarget (s : State) : Effect :=
  match sleepRefusal s with
  | some c => failCause c s
  | none =>
    match s.power.sleepDue with
    | some t => done (.dueIn (msLeft s t)) s
    | none =>
      let soon := s.clock + ms 10
      let due := if s.power.mode = .standby then soon else max soon (s.power.activeSince + ms 5000)
      done (.dueIn (msLeft s due)) (s.setPower { s.power with sleepDue := some due })

/-- SLEEP (R184). -/
def execSleep (r : Req) (s : State) : Host.Outcome State Fault Refusal :=
  .next (serve (.sleep r) r false (viaGate 3 r 0 nothingMissing (fun _ _ => sleepTarget)) s)

end Sys2Proof.Machine
end

