-- ==== Sys2Proof/Machine/Links.lean ====
section
/-! DEFINITION. The links of the three ports (R162..R165, R174): handle transactions and polls, responses transmitted, frames
that fail or are discarded. -/

namespace Sys2Proof.Machine

/-- A FRAME answer (R162): an empty payload, on the handle port only, for a frame that forms no request. -/
def answerFrame (tag : Nat) (s : State) : State :=
  let e := engineOf s .handle
  setEngine .handle { e with waiting := e.waiting ++ [formed s .handle tag ⟨.frame, .empty, false⟩ false] } s

/-- A valid request frame received by a transaction: in process from here on, held whole until its row processes it (R163, R165), or
answered BUSY. -/
def receiveRequest (frame : List Byte) (s : State) : State :=
  let e := engineOf s .handle
  if e.inProcess.isSome then answerBusy .handle (frameTag frame) s
  else setEngine .handle { e with inProcess := some ⟨frameTag frame, false, frame⟩ } s

/-- What a transaction does with the frame it clocked in (R162, R163). -/
def receiveFrame (bytes : List Byte) (s : State) : State :=
  if frameOk .handle bytes then
    if framePoll bytes then validFrame .handle s else receiveRequest (frameOf bytes) (validFrame .handle s)
  else answerFrame (frameTag bytes) s

/-- A transaction clocks out the oldest response, or loses it where it does not fit (R163). With `on` the handle clocks on beyond the
bytes given until the response is out, which it can only past a whole frame: before that they would be the frame's. -/
def transact (bytes : List Byte) (on : Bool) (s : State) : State :=
  clockOut (if on && frameWhole bytes then oldestOut bytes.length else clockedOut bytes.length) s

/-- HANDLE_TRANSACTION (R163): `outFits` is whether the handle clocks on until the response clocked out has fitted. A transaction with
no byte clocked (`bytes = []`) removes the oldest response too and is answered FRAME with tag 0 (DESIGN CHOICE, log entry 54,
unsafe). -/
def execHandleTransaction (bytes : List Byte) (outFits : Bool) (s : State) : Host.Outcome State Fault Refusal :=
  if asleep s then .next s else .next (receiveFrame bytes (transact bytes outFits s))

/-- HANDLE_POLL (R163): a poll, 00h 00h, after which the handle clocks on until the oldest waiting response is out (log entry 8); the
silence timer restarts (R151). -/
def execHandlePoll (s : State) : Host.Outcome State Fault Refusal :=
  if asleep s then .next s else .next (validFrame .handle (clockOut (oldestOut 2) s))

/-- The oldest formed response begins to be sent where none is being sent (R164). -/
def Engine.transmit (e : Engine) : Engine :=
  match e.sending, e.waiting with
  | none, x :: rest => { e with sending := some x, waiting := rest }
  | _, _ => e

/-- RESPONSE_TRANSMIT_START (R164), on the head and dock ports. -/
def execResponseTransmitStart (port : Port) (s : State) : Host.Outcome State Fault Refusal :=
  if port = .handle then .next s else .next (setEngine port (engineOf s port).transmit s)

/-- A response has been sent (R164): the request it answers is no longer in process, but for a RESET (R173). -/
def Engine.sent (e : Engine) : Engine :=
  match e.sending with
  | none => e
  | some x =>
    { e with
      sending := none
      delivered := .response x x.bytes
      inProcess := if x.ofRequest then e.inProcess.filter InProcess.isReset else e.inProcess }

/-- RESPONSE_SENT (R164). -/
def execResponseSent (port : Port) (s : State) : Host.Outcome State Fault Refusal :=
  .next (setEngine port (engineOf s port).sent s)

/-- A frame that fails its check (R162): FRAME on the handle port, where its bytes are all that its transaction clocks (R163), a
bad frame on the dock port (R135), nothing on the head port. -/
def frameFails (port : Port) (bytes : List Byte) (s : State) : State :=
  match port with
  | .handle => answerFrame (frameTag bytes) (transact bytes false s)
  | .head => s
  | .dock => badFrame s

/-- FRAME_FAIL (R162); a frame that passes its check is not this row's (log entry 3). -/
def execFrameFail (port : Port) (bytes : List Byte) (s : State) : Host.Outcome State Fault Refusal :=
  if asleep s || frameOk port bytes then .next s else .next (settle s (frameFails port bytes s))

/-- FRAME_BYTE_TIMEOUT (R162): more than 1 ms between two bytes, so the bytes received so far are the frame. The handle port
has no such limit. -/
def execFrameByteTimeout (port : Port) (bytes : List Byte) (s : State) : Host.Outcome State Fault Refusal :=
  if asleep s || frameOk port bytes || port == .handle then .next s else .next (settle s (frameFails port bytes s))

/-- FRAME_DISCARDED (R174): in DORMANT and SHELF an arriving frame is discarded unread. -/
def execFrameDiscarded (_ : Port) (s : State) : Host.Outcome State Fault Refusal := .next s

end Sys2Proof.Machine
end

