-- ==== Sys2Proof/Machine/Motor.lean ====
section
/-! DEFINITION. The events of the motor and of the demand (03): tach, speed, timers, deadlines, the stop line. -/

namespace Sys2Proof.Machine

/-- The capture unit runs in ACTIVE and in STANDBY (R61). -/
def capturing (s : State) : Bool := !asleep s

/-- 100 ms have passed with no accepted pulse: the speed is 0 (R61). -/
def speedLost (s : State) : State :=
  speedChanged (s.setSuction { s.suction with speed := 0, lastPulse := none })

/-- An accepted pulse (R61): the first starts the timing, a later one sets the speed from its period in µs. -/
def acceptPulse (s : State) : State :=
  match s.suction.lastPulse with
  | none => s.setSuction { s.suction with lastPulse := some s.clock }
  | some p =>
    if s.clock - p < 100 then s
    else speedChanged (s.setSuction { s.suction with lastPulse := some s.clock, speed := 30000000 / (s.clock - p) })

/-- The 100 ms mark, at its own moment (R61). -/
def speedMark (s : State) : State :=
  match s.suction.lastPulse with
  | none => s
  | some p => settle s (speedLost (reach (p + ms 100) s))

/-- The 100 ms mark has passed at a moment (R61). -/
def pulseLate (now : Nat) (s : State) : Bool :=
  match s.suction.lastPulse with
  | none => false
  | some p => p + ms 100 < now

/-- TACH_PULSE (R61), `wait` µs on; a mark that passes before the pulse is taken first, at its own moment. -/
def execTachPulse (wait : Nat) (s : State) : Host.Outcome State Fault Refusal :=
  let now := s.clock + wait
  if capturing s then
    let s1 := if pulseLate now s then speedMark s else s
    .next (settle s1 (acceptPulse (s1.setClock now)))
  else .next (s.setClock now)

/-- SPEED_TIMEOUT (R61). -/
def execSpeedTimeout (s : State) : Host.Outcome State Fault Refusal := .next (speedMark s)

/-- SPIN_UP_TIMEOUT (R54): MOTOR_STALL as a one-shot. -/
def execSpinUpTimeout (s : State) : Host.Outcome State Fault Refusal :=
  match s.suction.spinUpAt with
  | none => .next s
  | some t =>
    let s1 := reach t s
    .next (settle s (oneShot 6 s1.suction.speed (s1.setSuction { s1.suction with spinUpAt := none })))

/-- STALL_TIMEOUT (R55): MOTOR_STALL as a one-shot. -/
def execStallTimeout (s : State) : Host.Outcome State Fault Refusal :=
  match s.suction.stallAt with
  | none => .next s
  | some t =>
    let s1 := reach t s
    .next (settle s (oneShot 6 s1.suction.speed (s1.setSuction { s1.suction with stallAt := none })))

/-- COAST_TIMEOUT (R56). -/
def execCoastTimeout (s : State) : Host.Outcome State Fault Refusal :=
  match s.suction.coastAt with
  | none => .next s
  | some t => if s.suction.state = .coast then .next (settle s (setSuctionState .off (reach t s))) else .next s

/-- DEMAND_EXPIRED (R48). -/
def execDemandExpired (s : State) : Host.Outcome State Fault Refusal :=
  match s.suction.demand with
  | none => .next s
  | some d => .next (settle s (endDemandCoast .expired (reach d.holdAt s)))

/-- BOOST_EXPIRED (R50): the boost flag is cleared and the demand continues. -/
def execBoostExpired (s : State) : Host.Outcome State Fault Refusal :=
  match s.suction.demand with
  | none => .next s
  | some d =>
    match d.boostAt with
    | none => .next s
    | some t =>
      let s1 := reach t s
      .next (settle s (s1.setSuction { s1.suction with demand := some { d with boostAt := none } }))

/-- STOP_ASSERT (R62, R53, R113). -/
def execStopAssert (s : State) : Host.Outcome State Fault Refusal :=
  if s.suction.stop then .next s
  else
    let s1 := inhibit .stopped (s.setSuction { s.suction with stop := true })
    .next (settle s (if s1.bin.evac = .granted then setEvac .running s1 else s1))

/-- STOP_RELEASE (R62, R57, R113). -/
def execStopRelease (s : State) : Host.Outcome State Fault Refusal :=
  if s.suction.stop then
    let s1 := s.setSuction { s.suction with stop := false }
    let s2 := if s1.bin.evac = .running then setEvac .ending s1 else s1
    .next (settle s (releaseInhibit s2))
  else .next s

end Sys2Proof.Machine
end

