-- ==== Sys2Proof/Machine/Reads.lean ====
section
/-! DEFINITION. READ of every table (R168), IDENT and the event sets. -/

namespace Sys2Proof.Machine

/-! ### Records as read -/

/-- ACCOUNT (R17). -/
def accountView (s : State) : AccountView :=
  let a := s.account
  { lastSeq := a.lastSeq, qRem := a.qRem, residue := a.residue, qFull := a.qFull, soc := soc s, eRem := eRem s,
    estimated := a.estimated, learnActive := a.learnActive, learnTotal := a.learnTotal, emptyRun := a.emptyRun,
    cycleAcc := a.cycleAcc, cycleCount := a.cycleCount }

/-- SCAN (R6). -/
def scanPayload (s : State) (index : Nat) : Payload :=
  match s.scan.latest with
  | none => .scanNone 0
  | some m =>
    if index = 0 then .scanCells m.seq (chanCells m.value) m.vmin m.vmax m.packV m.elapsed
    else
      .scanRest m.seq m.value.packI m.value.motorI m.value.brushI m.value.tempA m.value.tempB m.value.tempStage m.tHot
        m.value.dockV (channelSet m.suspect)

/-- SUCTION index 0 (R68). -/
def suctionView (s : State) : SuctionView :=
  let x := s.suction
  let hold := match x.demand with
    | some d => msLeft s d.holdAt
    | none => 0
  let boostAt := x.demand.bind Demand.boostAt
  { state := x.state
    causes := inhibits s
    demand := x.demand.isSome
    source := x.demand.map Demand.source
    holdRemaining := hold
    boost := boostAt.isSome
    boostRemaining := (boostAt.map (msLeft s)).getD 0
    lastEnd := x.lastEnd
    activeProfile := x.activeProfile
    pSet := x.pSet
    mset := mset s
    men := men s
    speed := x.speed
    timeInState := msSince s x.since }

/-- HEAD index 0 (R83). -/
def headView (s : State) : HeadView :=
  let h := s.head
  { attached := h.attached, identRead := h.identRead, announced := h.announced, type := h.type, id := h.id,
    firmware := h.firmware, cap := h.type.cap, floor := h.floor, claim := h.claim, grant := h.grant,
    rail := railState s
    causes := if railState s = .on then [] else railCauses s
    frameSeen := h.frameSeen, silence := headSilence s }

/-- DIRT index 0 (R98). -/
def dirtView (s : State) : DirtView :=
  let d := s.dirt
  { level := d.level
    holdDown := d.holdDown
    economy := d.economy
    windowOpen := d.window.isSome
    fine := (d.window.map Window.fine).getD 0
    coarse := (d.window.map Window.coarse).getD 0
    elapsed := (d.window.map fun w => min 200 ((s.clock - w.openedAt) / 1000)).getD 0
    windowEconomy := (d.window.map Window.economy).getD false
    windowFirst := (d.window.map Window.first).getD false
    scoresHeld := d.recent.length
    scoreSum := d.scoreSum
    e1 := d.e1
    e2 := d.e2
    e3 := d.e3
    seq := d.seq
    ringCount := d.ring.length
    oldest := d.ring.head?.map WindowRecord.seq
    newest := d.ring.getLast?.map WindowRecord.seq }

/-- BIN index 0 (R109). -/
def binView (s : State) : BinView :=
  { f := s.bin.f, fFull := s.bin.fFull, fill := fill s, evac := s.bin.evac, remaining := s.bin.evacAt.map (msLeft s),
    lastOutcome := s.bin.lastOutcome, lastCause := s.bin.lastCause }

/-- CHARGE index 0 (R142). -/
def chargeView (s : State) : ChargeView :=
  let c := s.charge
  { stage := c.stage, reason := holdReason s, causes := holdCauses s, curGrant := c.curGrant, voltGrant := c.voltGrant,
    cap := c.cap, stageS := c.stageMs / 1000, totalS := c.totalMs / 1000, preS := c.preMs / 1000, termRun := c.termRun,
    holdRemaining := c.holdAt.map (msLeft s), badFrames := c.badFrames, resyncRequired := c.resyncRequired,
    linkFlag := c.linkFlag, scanWait := c.scanWait, balance := c.balance, dockTier := c.dockTier, icc := iccInUse s,
    fCharge := c.fCharge }

/-- The channels of the table that are marked. -/
def channelsWhere (f : FaultEntry → Bool) (s : State) : List Nat :=
  s.faults.entries.zipIdx.filterMap fun (e, i) => if f e then some i else none

/-- The actions that hold (R152). -/
def actionsHolding (s : State) : List Action :=
  [Action.tripSuction, .tripBrush, .stopCharge, .limitSuction, .warn].filter (holds s)

/-- FAULT (R158). -/
def faultPayload (s : State) (index : Nat) : Payload :=
  if index = 18 then
    .faultSummary (channelsWhere FaultEntry.latched s) (channelsWhere FaultEntry.present s) (actionsHolding s) (fltN s)
  else .fault index (entryAt s index) (carries index (entryAt s index).wide)

/-- The STORE status entry (R179). -/
def storeView (s : State) : StoreView :=
  { programming := storeBusy s, tag := s.store.program.map Program.tag,
    remaining := s.store.program.map fun p => msLeft s p.endAt, queue := s.store.queue, locked := s.store.locked,
    replaced := s.store.replaced, blank := s.store.blank }

/-- A slot as read (R179): every byte of a BLANK slot holds FFh, as many of them as the tag's greatest length (DESIGN CHOICE, log
entry 56, unsafe); a cut-short slot holds free values (R175). -/
def slotPayload (s : State) (t : Nat) : Payload :=
  let slot := slotAt s.store.slots t
  match slot with
  | .blank => .slot .blank 255 (List.replicate (slotRoom t) 0xFF#8)
  | .entry _ length value _ => .slot (slotState t slot) length value
  | .torn n => .slot .bad (Config.tornLength n) (Config.tornValue n)

/-- POWER index 0 (R187). -/
def powerView (s : State) : PowerView :=
  { mode := s.power.mode
    settling := (s.power.settlingUntil.map (msLeft s)).getD 0
    rest := min 65535 (restMs s / 1000)
    dwell := dwellMs s / 1000
    sleepDue := s.power.sleepDue.map (msLeft s)
    lastWake := s.power.lastWake
    lastSleepEnd := s.power.lastSleepEnd }

/-- IDENT (R168). -/
def identPayload (p : Port) (s : State) : Payload := .ident 7340 1 p (portTier s p) (settling s)

/-- The record or entry a READ returns (R168). -/
def readPayload (p : Port) (table index : Nat) (s : State) : Payload :=
  match table with
  | 0 => identPayload p s
  | 1 => .account (accountView s)
  | 2 => scanPayload s index
  | 3 => .points (if index = 0 then s.tables.ocv else if index = 1 then s.tables.dis else s.tables.chg)
  | 4 =>
    if index = 0 then .budget s.budget.record
    else .budgetParams s.budget.pBase s.budget.vKnee s.budget.vFloor pReserve
  | 5 => .profile (profileAt s index)
  | 6 => if index = 0 then .suction (suctionView s) else .holdTime s.suction.holdTime
  | 7 => .head (headView s)
  | 8 => if index = 0 then .dirt (dirtView s) else if index = 1 then .sensing s.dirt.params else .levels s.dirt.levels
  | 10 => .bin (binView s)
  | 11 => .charge (chargeView s)
  | 12 => faultPayload s index
  | 13 => .gate index (gateAt s index)
  | 14 => .events (engineOf s p).events (engineOf s p).subscription
  | 15 => if index = 0 then .store (storeView s) else slotPayload s index
  | 16 => .power (powerView s)
  | _ => .empty

/-! ### The commands -/

/-- A READ of IDENT on the head port while attached sets ident read (R73). -/
def identEffect (r : Req) (s : State) : Effect :=
  if !r.fits then fail .range s
  else
    let s1 := if r.port = .head ∧ s.head.attached then s.setHead { s.head with identRead := true } else s
    done (identPayload r.port s1) s1

/-- A READ (R168); a READ of HISTORY without its selector is a payload that does not fit (log entry 11). -/
def readEffect (r : Req) (table index : Nat) (s : State) : Effect :=
  match addressed r.port 1 table index with
  | some c => fail c s
  | none =>
    if table = 0 then identEffect r s
    else if !r.fits || table == 9 then fail .range s
    else done (readPayload r.port table index s) s

/-- READ (R168); during settling a READ of IDENT, at any index, goes on to the later checks (R166). -/
def execRead (r : Req) (table index : Nat) (s : State) : Host.Outcome State Fault Refusal :=
  .next (serve (.read r table index) r (table == 0) (readEffect r table index) s)

/-- READ_IDENT (R73, R168): served during settling. -/
def execReadIdent (r : Req) (s : State) : Host.Outcome State Fault Refusal :=
  .next (serve (.readIdent r) r true (identEffect r) s)

/-- READ_EVENTS (R172): the set is returned and emptied in one step. -/
def readEventsEffect (r : Req) (s : State) : Effect :=
  if !r.fits then fail .range s
  else
    let e := engineOf s r.port
    done (.eventSet e.events) (setEngine r.port { e with events := [] } s)

/-- READ_EVENTS (R172). -/
def execReadEvents (r : Req) (s : State) : Host.Outcome State Fault Refusal :=
  .next (serve (.readEvents r) r false (readEventsEffect r) s)

/-- UNDEFINED_REQUEST (R166); a request that is defined is not this row's (log entry 3). During settling a READ of IDENT passes step 3,
so that one with an index above 0 is answered NO_RECORD. -/
def execUndefinedRequest (r : Req) (op table index : Nat) (s : State) : Host.Outcome State Fault Refusal :=
  match undefinedCode r.port op table index with
  | none => .next s
  | some c => .next (serve (.undefinedRequest r op table index) r (op == 1 && table == 0) (fail c) s)

end Sys2Proof.Machine
end

