-- ==== Sys2Proof/Machine/Resets.lean ====
section
/-! DEFINITION. The power-on reset, the RESET request and the service reset (09 R173, 11 R187, and the reset rules of every
chapter). -/

namespace Sys2Proof.Machine

/-- The CAL_INTEGRITY one-shots of a load (R149, R176): the last value is the tag. -/
def handIntegrity (tags : List Nat) (s : State) : State := tags.foldl (fun s t => oneShot 17 (t : Int) s) s

/-- The filtered dock state set from the comparators at a reset (R119): a rail reading high is taken as a dock detect, with all
of R120 but its event; suction is INHIBITED for it (R53). -/
def railAtReset (rail : RailReading) (strap : Bool) (s : State) : State :=
  if rail = .high then
    (s.setCharge (sessionRecord strap (iccOf s.account.cycleCount) s.charge)).setSuction { s.suction with state := .inhibited }
  else s

/-- The suction controller after a reset (R69), undocked; the speed and the capture's last pulse as given. -/
def resetSuction (now speed : Nat) (lastPulse : Option Nat) (l : Loaded) : Suction :=
  { state := .off, since := now, spinUpAt := none, stallAt := none, coastAt := none, demand := none, lastEnd := .none,
    activeProfile := 1, pSet := 0, speed := speed, lastPulse := lastPulse, stop := false, holdTime := l.holdTime,
    profiles := l.profiles }

/-- The dirt counter after either reset (R103); the sum and thresholds at last close return to their power-on values
(DEDUCED, log entry 16, unsafe). -/
def resetDirt (l : Loaded) : Dirt :=
  { level := 0, holdDown := 0, economy := false, window := none, strike := none, recent := [], scoreSum := 0, e1 := 0,
    e2 := 0, e3 := 0, seq := 0, ring := [], cursors := ⟨.invalid, .invalid, .invalid⟩, wclUntil := none,
    params := l.sensing, levels := l.levels }

/-- The power controller after either reset (R187), entering ACTIVE with settling (R186). -/
def resetPower (now : Nat) (w : WakeSource) : Power :=
  { mode := .active, settlingUntil := some (now + ms 100), restSince := none, dwellSince := none, sleepDue := none,
    lastWake := w, lastSleepEnd := .none, activeSince := now, shelfCount := none, headSample := false,
    headLine := false, handleStop := none }

/-- The store after the load of a reset (R176, R181). -/
def resetStore (slots : List Slot) : Store :=
  { slots := slots, program := none, queue := [], locked := true, replaced := badCount slots, blank := blankCount slots }

/-- The scan unit after the power-on reset (R1..R5). -/
def powerOnScan (now : Nat) (l : Loaded) : ScanUnit :=
  { cal := l.cal, inProgress := some now, nextStart := some (now + ms 10), lastStart := now, lastDone := 0, seq := 0,
    latest := none, suspectRun := allChannels 0, cleanRun := allChannels 0, sensing := allChannels false,
    firstScan := true, afterShelf := false }

/-- The energy account after the power-on reset (R22). -/
def powerOnAccount (l : Loaded) : Account :=
  { lastSeq := 0, qRem := 0, residue := 0, qFull := l.qFull, estimated := true, learnActive := false, learnTotal := 0,
    chargeCancel := 0, emptyRun := 0, cycleAcc := 0, cycleCount := l.cycles }

/-- Every block at its power-on values, the store loaded, the rail not yet read; `s` gives the clock and the slots. -/
def powerOnBlocks (s : State) : State :=
  let l := loadStore true s.store.slots
  let now := s.clock
  { clock := now
    pending := s.pending
    scan := powerOnScan now l
    account := powerOnAccount l
    tables := l.tables
    budget := { record := clearBudget, pBase := l.pBase, vKnee := l.vKnee, vFloor := l.vFloor }
    suction := resetSuction now 0 none l
    head := clearHead now
    dirt := resetDirt l
    bin := { f := l.f, fFull := l.fFull, evac := .idle, evacAt := none, lastOutcome := .none, lastCause := .none }
    charge := clearCharge (iccOf l.cycles)
    faults := { entries := clearFaults, lastSeq := 0, handleSince := now }
    ports := clearPorts
    store := resetStore s.store.slots
    power := resetPower now .powerOn
    tornCount := s.tornCount }

/-- The CAL_INTEGRITY tags of the load (R149, R176). -/
def integrityOf (fresh : Bool) (s : State) : List Nat := (loadStore fresh s.store.slots).integrity

/-- POWER_ON_RESET (R187, R22, R43, R69, R84, R103, R110, R118, R119, R160, R174, R176, R181). -/
def execPowerOnReset (rail : RailReading) (strap : Bool) (s : State) : Host.Outcome State Fault Refusal :=
  let s1 := abandonProgram s
  .next (settleRest (handIntegrity (integrityOf true s1) (railAtReset rail strap (powerOnBlocks s1))))

/-! ### RESET and the service reset (R173) -/

/-- A RESET of POWER index 0 (R173): its OK response, and the request stays in process. -/
def resetEffect (r : Req) (s : State) : Effect :=
  if 0 < effTier s r then failTier 0 s
  else if !r.fits then fail .range s
  else (s, ⟨.ok, .empty, true⟩)

/-- RESET (R173). -/
def execReset (r : Req) (s : State) : Host.Outcome State Fault Refusal :=
  .next (serve (.reset r) r false (resetEffect r) s)

/-- The scan unit at the service reset (R1, R3, R5): the scan is abandoned and a new one starts. -/
def serviceScan (now : Nat) (l : Loaded) (x : ScanUnit) : ScanUnit :=
  { x with
    cal := l.cal, inProgress := some now, nextStart := some (now + ms 10), lastStart := now, suspectRun := allChannels 0,
    cleanRun := allChannels 0, sensing := allChannels false }

/-- The energy account at the service reset (R23); the scan sequence of the last update, which R23 does not name, is kept (DESIGN
CHOICE, log entry 46, unsafe). -/
def serviceAccount (a : Account) : Account :=
  { a with learnActive := false, learnTotal := 0, chargeCancel := 0, emptyRun := 0 }

/-- Every block at the service reset, the rail not yet read and the bin's fill events not yet raised. -/
def serviceBlocks (s : State) : State :=
  let l := loadStore false s.store.slots
  let now := s.clock
  { clock := now
    pending := s.pending
    scan := serviceScan now l s.scan
    account := serviceAccount s.account
    tables := l.tables
    budget := { record := clearBudget, pBase := l.pBase, vKnee := l.vKnee, vFloor := l.vFloor }
    suction := resetSuction now s.suction.speed s.suction.lastPulse l
    head := clearHead now
    dirt := resetDirt l
    bin := { f := s.bin.f, fFull := l.fFull, evac := .idle, evacAt := none, lastOutcome := .none, lastCause := .none }
    charge := clearCharge (iccOf s.account.cycleCount)
    faults := { entries := clearFaults, lastSeq := s.faults.lastSeq, handleSince := now }
    ports := clearPorts
    store := resetStore s.store.slots
    power := resetPower now .serviceReset
    tornCount := s.tornCount }

/-- A RESET is in process on the dock port and its response's transmission has ended: it neither waits nor is being sent
(R173). -/
def resetReady (s : State) : Bool :=
  let e := engineOf s .dock
  (e.inProcess.map InProcess.isReset).getD false && (e.waiting ++ e.sending.toList).all (fun x => !x.ofRequest)

/-- The service reset; a reload of F_full that moves the fill decile saves F (R107) (R173, R23, R44, R69, R84, R103, R110, R118, R119,
R160, R176, R181). BIN_NEAR and BIN_FULL of that reload (R110) are raised after the event sets are emptied and the subscriptions are
at their defaults, as R160 states for FAULT_LATCHED alone (DESIGN CHOICE, log entry 65, unsafe). -/
def serviceReset (rail : RailReading) (strap : Bool) (s : State) : State :=
  let s1 := abandonProgram s
  let s2 := handIntegrity (integrityOf false s1) (railAtReset rail strap (serviceBlocks s1))
  settleRest (saveIf (decileOf (fill s) != decileOf (fill s2)) 40 (fillEvents (fill s) (fill s2) s2))

/-- SERVICE_RESET (R173); nothing where no RESET is in process whose response has been transmitted (log entry 3). -/
def execServiceReset (rail : RailReading) (strap : Bool) (s : State) : Host.Outcome State Fault Refusal :=
  if resetReady s then .next (serviceReset rail strap s) else .next s

end Sys2Proof.Machine
end

