-- ==== Sys2Proof/Machine/Scan.lean ====
section
/-! DEFINITION. SCAN_START and SCAN_COMPLETE (01), with the charge controller's work on a scan (R125), balancing (R140) and
economy sensing (R97). -/

namespace Sys2Proof.Machine

/-! ### The charge controller at a scan (R125) -/

/-- Elapsed times are kept in milliseconds, at most 65,535 s (R137). -/
def addMs (n elapsed : Nat) : Nat := min 65535999 (n + elapsed)

/-- The termination run at a scan in CV (R128). -/
def termRunNext (c : Charge) (m : MeasurementSet) : Nat :=
  if chargeCurrent m < 200 ∧ 200 ≤ c.curGrant ∧ 4150 ≤ m.vmax then min 30000 (c.termRun + m.elapsed) else 0

/-- Step 3 of R125 on the record: the timers (R126, R128, R137), by the stage the scan finds. -/
def chargeTimers (m : MeasurementSet) (c : Charge) : Charge :=
  { c with
    stageMs := addMs c.stageMs m.elapsed
    preMs := if c.stage = .precharge then addMs c.preMs m.elapsed else c.preMs
    totalMs := if c.stage.filling then addMs c.totalMs m.elapsed else c.totalMs
    termRun := if c.stage = .cv then termRunNext c m else c.termRun }

/-- The timers advance at each scan while docked, before the faults are judged, so that a STOP_CHARGE which latches at the scan leaves
the time to the stage the scan found, and FAULTED with stage elapsed 0 (R125, R137, R138). -/
def advanceTimers (m : MeasurementSet) (s : State) : State :=
  if docked s then s.setCharge (chargeTimers m s.charge) else s

/-- The one-shots of the timers, by the stage the scan found (R126, R137). -/
def chargeTimeouts (stage : ChargeStage) (s : State) : State :=
  let s1 := if stage = .precharge ∧ 1800000 ≤ s.charge.preMs then oneShot 13 (s.charge.preMs / 1000 : Nat) s else s
  if stage.filling ∧ 18000000 ≤ s.charge.totalMs then oneShot 14 (s.charge.totalMs / 1000 : Nat) s1 else s1

/-- The transitions a scan finds in the charging stages (R126..R129). -/
def scanTransition (m : MeasurementSet) (s : State) : State :=
  match s.charge.stage with
  | .precharge => if 3100 ≤ m.vmin then setStage (if 4180 ≤ m.vmax then .cv else .cc) s else s
  | .cc => if 4180 ≤ m.vmax then setStage .cv s else s
  | .cv => if 30000 ≤ s.charge.termRun then enterTopped s else s
  | .topped => if soc s ≤ 95 then leaveStandby .recharge (setStage .cc s) else s
  | _ => s

/-- Whether a cell bleeds after a scan (R140). -/
def bleeds (balance : List Nat) (m : MeasurementSet) (i : Nat) (v : Int) : Bool :=
  if balance.contains i then 5 < v - m.vmin else 20 < v - m.vmin

/-- The balancing map after a scan (R140). -/
def balanceNext (stage : ChargeStage) (balance : List Nat) (m : MeasurementSet) : List Nat :=
  if stage = .cv ∨ stage = .topped then
    if 50 < m.tHot ∨ anyCell m.suspect then []
    else ((chanCells m.value).zipIdx 1).filterMap fun (v, i) => if bleeds balance m i v then some i else none
  else balance

/-- The charge controller's work on a completed scan that found the stage `found`, CHARGE_OC (R139) and the timers' advance apart (R125,
steps 2 to 7): the scan wait (R123), the timers' one-shots, and the grant computation. Inside step 5 a NEGOTIATING that may be
left is left first, then TEMP is judged, and the transition of the stage then standing is taken last: a derating of 0 drops a
transition that the same scan would have brought (DESIGN CHOICE, log entry 52, unsafe). -/
def chargeScan (found : ChargeStage) (m : MeasurementSet) (s : State) : State :=
  if docked s then
    let s1 := s.setCharge { s.charge with scanWait := s.charge.scanWait && !motorStopped s }
    let s2 := chargeTimeouts found s1
    let s3 := scanTransition m (judgeTemp (leaveNegotiating (takeDerating m s2)))
    let s4 := s3.setCharge { s3.charge with balance := balanceNext s3.charge.stage s3.charge.balance m }
    setGrants s4
  else s

/-! ### Economy sensing (R97) -/

/-- The economy state at a SOC (R97). -/
def economyNext (now : Bool) (percent : Nat) : Bool := if now then !decide (20 ≤ percent) else decide (percent ≤ 15)

/-- The open window becomes an economy window (R97). -/
def economyWindow (w : Window) : Window := { w with fine := 0, economy := true }

/-- The economy state is judged at each completed scan (R97). -/
def economyScan (s : State) : State :=
  let next := economyNext s.dirt.economy (soc s)
  s.setDirt { s.dirt with
    economy := next
    window := if next && !s.dirt.economy then s.dirt.window.map economyWindow else s.dirt.window }

/-! ### The commands -/

/-- The budget unit at a completed scan: an evaluation in ACTIVE (R24), a refresh in STANDBY (R26). A scan that began in ACTIVE and
completes in STANDBY counts as a STANDBY scan (DESIGN CHOICE, log entry 48, unsafe). -/
def budgetScan (m : MeasurementSet) (s : State) : State :=
  match s.power.mode with
  | .active => evaluateBudget m s
  | .standby => refreshRuntime m s
  | _ => s

/-- The head interface has judged HEAD_LINK and clears its mark (R81). -/
def clearFrameSeen (s : State) : State := s.setHead { s.head with frameSeen := false }

/-- A completed scan with its set, from the hand-over of R5 on (log entry 12 for the order). -/
def scanWork (k : Counting) (m : MeasurementSet) (s : State) : State :=
  judgeShelf m (economyScan (chargeScan s.charge.stage m
    (budgetScan m (clearFrameSeen (judgeFaults m (advanceTimers m (accountScan k m (publish m s))))))))

/-- The scan completes (R5): `s` is the state at the completion. -/
def completeScan (codes : PerChannel Nat) (s : State) : State :=
  let m := measure s codes
  let s1 := scanWork (countingOf s m) m s
  if s.charge.stage ≠ .topped ∧ s1.charge.stage = .topped then standbyAtOnce s1 else s1

/-- SCAN_COMPLETE (R2..R5); nothing where no scan is in progress (R1, an abandoned scan). -/
def execScanComplete (wait : Nat) (codes : PerChannel Nat) (s : State) : Host.Outcome State Fault Refusal :=
  match s.scan.inProgress with
  | none => .next s
  | some _ => .next (settle s (completeScan codes (s.setClock (s.clock + wait))))

/-- SCAN_START (R1): a scan in progress runs to completion, and the schedule goes on (log entry 15). -/
def execScanStart (s : State) : Host.Outcome State Fault Refusal :=
  match s.scan.nextStart with
  | none => .next s
  | some t =>
    let s1 := reach t s
    match s.scan.inProgress with
    | none => .next (startScan s1)
    | some _ =>
      .next (s1.setScan { s1.scan with nextStart := (scanPeriod s1.power.mode).map (s1.clock + ·) })

end Sys2Proof.Machine
end

