-- ==== Sys2Proof/Machine/SuctionGates.lean ====
section
/-! DEFINITION. The suction controller's gates MODE, TRIGGER and BOOST, and its writes (03). -/

namespace Sys2Proof.Machine

/-! ### MODE (R51) -/

/-- The index names an entry that is absent (R51). -/
def profileMissing (index : Nat) (s : State) : Bool := index ≤ 7 && !(profileAt s index).present

/-- MODE's own judgement of the index as bounded (R51). -/
def modeTarget (index : Nat) (clamped : Bool) (s : State) : Effect :=
  if profileMissing index s then fail .absent s
  else (s.setSuction { s.suction with activeProfile := index }, ⟨okCode clamped, .empty, false⟩)

/-- MODE (R51). -/
def execMode (r : Req) (index : Nat) (s : State) : Host.Outcome State Fault Refusal :=
  .next (serve (.mode r index) r false (viaGate 0 r index (profileMissing index) modeTarget) s)

/-! ### TRIGGER (R46, R47) -/

/-- The first cause that refuses a press with no demand active (R46). -/
def pressRefusal (s : State) : Option Cause :=
  if s.suction.state = .inhibited then some .inhibited
  else if s.suction.state = .tripped then some .tripped
  else if !(activeProfile s).present then some .noProfile
  else if s.budget.record.short then some .short
  else none

/-- A demand is created (R46), and the state goes to SPIN_UP (R54). -/
def createDemand (p : Port) (s : State) : State :=
  enterSpinUp (s.setSuction { s.suction with
    demand := some { source := p, holdAt := s.clock + ms s.suction.holdTime, boostAt := none } })

/-- A press, once the part is in ACTIVE (R46, R47). -/
def press (p : Port) (clamped : Bool) (s : State) : Effect :=
  match s.suction.demand with
  | some d =>
    (cancelSleep (s.setSuction { s.suction with demand := some { d with holdAt := s.clock + ms s.suction.holdTime } }),
      ⟨okCode clamped, .empty, false⟩)
  | none =>
    match pressRefusal s with
    | some c => failCause c s
    | none =>
      let s1 := createDemand p (cancelSleep s)
      (s1, ⟨okCode clamped, .suctionState s1.suction.state, false⟩)

/-- A release (R47). -/
def release (p : Port) (clamped : Bool) (s : State) : Effect :=
  match s.suction.demand with
  | none => (s, ⟨okCode clamped, .empty, false⟩)
  | some d =>
    if d.source = p then (endDemandCoast .released s, ⟨okCode clamped, .empty, false⟩)
    else failCause .notSource s

/-- TRIGGER's own judgement (R46, R47): a press that reaches it in STANDBY brings the part to ACTIVE first (R182). -/
def triggerTarget (p : Port) (arg : Nat) (clamped : Bool) (s : State) : Effect :=
  if arg = 0 then release p clamped s else press p clamped (leaveStandby .trigger s)

/-- TRIGGER (R46, R47). -/
def execTrigger (r : Req) (arg : Nat) (s : State) : Host.Outcome State Fault Refusal :=
  .next (serve (.trigger r arg) r false (viaGate 1 r arg nothingMissing (triggerTarget r.port)) s)

/-! ### BOOST (R50) -/

/-- BOOST's own judgement (R50). -/
def boostTarget (seconds : Nat) (clamped : Bool) (s : State) : Effect :=
  match s.suction.demand with
  | none => fail .state s
  | some d =>
    (s.setSuction { s.suction with demand := some { d with boostAt := some (s.clock + ms (seconds * 1000)) } },
      ⟨okCode clamped, .empty, false⟩)

/-- BOOST (R50). -/
def execBoost (r : Req) (seconds : Nat) (s : State) : Host.Outcome State Fault Refusal :=
  .next (serve (.boost r seconds) r false (viaGate 2 r seconds nothingMissing boostTarget) s)

/-! ### Writes (R52, R66) -/

/-- A WRITE of SUCTION index 1 (R52). -/
def writeHoldTime (r : Req) (holdTime : Nat) (s : State) : Effect :=
  if 1 < effTier s r then failTier 1 s
  else if !r.fits then fail .range s
  else if holdTime < 50 || 1000 < holdTime then fail .range s
  else if storeBusy s then fail .busy s
  else done .empty (save 37 (s.setSuction { s.suction with holdTime := holdTime }))

/-- WRITE_SUCTION_PARAMS (R52). -/
def execWriteSuctionParams (r : Req) (holdTime : Nat) (s : State) : Host.Outcome State Fault Refusal :=
  .next (serve (.writeSuctionParams r holdTime) r false (writeHoldTime r holdTime) s)

/-- The entry a taken WRITE leaves (R66): the generation increases by 1, wrapping from 255 to 0. -/
def profileWritten (w : ProfileWrite) (p : Profile) : Profile :=
  match w with
  | .absent => { p with present := false, generation := (p.generation + 1) % 256 }
  | .present c => { present := true, generation := (p.generation + 1) % 256, body := c }

/-- The contents of a present write pass the content checks (R66, check 2). -/
def writeOk : ProfileWrite → Bool
  | .absent => true
  | .present c => contentsOk c

/-- A WRITE of PROFILE (R66). A payload length that does not fit is answered RANGE before the generation is checked (DESIGN CHOICE,
log entry 49, unsafe). -/
def profileWrite (r : Req) (index generation : Nat) (w : ProfileWrite) (s : State) : Effect :=
  let limit := if index ≤ 3 then 1 else 2
  let p := profileAt s index
  if 7 < index then fail .noRecord s
  else if limit < effTier s r then failTier limit s
  else if !r.fits then fail .range s
  else if generation ≠ p.generation then (s, ⟨.stale, .generation p.generation, false⟩)
  else if !writeOk w then fail .range s
  else if w = .absent ∧ index = s.suction.activeProfile ∧ s.suction.state ≠ .off then fail .state s
  else
    let q := profileWritten w p
    done (.generation q.generation)
      (save (26 + index) (s.setSuction { s.suction with profiles := s.suction.profiles.set index q }))

/-- WRITE_PROFILE (R66). -/
def execWriteProfile (r : Req) (index generation : Nat) (w : ProfileWrite) (s : State) :
    Host.Outcome State Fault Refusal :=
  .next (serve (.writeProfile r index generation w) r false (profileWrite r index generation w) s)

end Sys2Proof.Machine
end

