-- ==== Sys2Proof/Machine/Writes.lean ====
section
/-! DEFINITION. The record writes of the account, the tables, the budget, the dirt counter, the faults, the gates, the events
and the store; CLEAR and UNLOCK. -/

namespace Sys2Proof.Machine

/-! ### ACCOUNT (R17) -/

/-- A taken Q_full (R17). -/
def qFullWritten (q : Nat) (a : Account) : Account :=
  countCycles { cancelLearn a with qFull := q, qRem := min a.qRem q, estimated := true }

/-- A WRITE of ACCOUNT (R17). One that carries both fields works Q_full first, so that a cycle it counts is replaced by the written
count (DESIGN CHOICE, log entry 43, unsafe); one that carries neither is answered OK and changes nothing (DESIGN CHOICE, log
entry 44, unsafe). -/
def accountWrite (r : Req) (qFull cycles : Option Nat) (s : State) : Effect :=
  let q := carried qFull 1000
  if 0 < effTier s r then failTier 0 s
  else if !r.fits then fail .range s
  else if q < 1000 || 6000 < q then fail .range s
  else
    let a1 := match qFull with
      | some v => qFullWritten v s.account
      | none => s.account
    let a2 := { a1 with cycleCount := min 65535 (carried cycles a1.cycleCount) }
    done .empty (saveIf cycles.isSome 39 (saveIf qFull.isSome 38 (s.setAccount a2)))

/-- WRITE_ACCOUNT (R17). -/
def execWriteAccount (r : Req) (qFull cycles : Option Nat) (s : State) : Host.Outcome State Fault Refusal :=
  .next (serve (.writeAccount r qFull cycles) r false (accountWrite r qFull cycles) s)

/-! ### TABLES (R19) -/

/-- One list of the tables replaced. -/
def tableWritten (index : Nat) (l : List Point) (t : Tables) : Tables :=
  if index = 0 then { t with ocv := l } else if index = 1 then { t with dis := l } else { t with chg := l }

/-- A WRITE of TABLES (R19); of the charge derating table, with a grant computation while docked (R131). -/
def tablesWrite (r : Req) (index : Nat) (l : List Point) (s : State) : Effect :=
  let limit := if index = 0 then 0 else 1
  if 2 < index then fail .noRecord s
  else if limit < effTier s r then failTier limit s
  else if !r.fits then fail .range s
  else if !tableOk index l then fail .range s
  else if storeBusy s then fail .busy s
  else
    let s1 := save (23 + index) (s.setTables (tableWritten index l s.tables))
    done .empty (if index = 2 ∧ docked s1 then requestComputation s1 else s1)

/-- WRITE_TABLES (R19). -/
def execWriteTables (r : Req) (index : Nat) (points : List Point) (s : State) : Host.Outcome State Fault Refusal :=
  .next (serve (.writeTables r index points) r false (tablesWrite r index points) s)

/-! ### BUDGET index 1 (R28) -/

/-- The tags of the values a WRITE has changed, in tag order (R28, R86, R92). -/
def changedTags (l : List (Nat × Bool)) : List Nat := l.filterMap fun (t, c) => if c then some t else none

/-- A WRITE of BUDGET index 1 (R28). One that carries no field is judged and answered as one that carries the standing values (DESIGN
CHOICE, log entry 61, unsafe). -/
def budgetWrite (r : Req) (w : BudgetWrite) (s : State) : Effect :=
  let b := carried w.pBase s.budget.pBase
  let k := carried w.vKnee s.budget.vKnee
  let f := carried w.vFloor s.budget.vFloor
  let ok := 100 ≤ b && b ≤ 600 && 3000 ≤ k && k ≤ 4000 && 2800 ≤ f && f + 50 ≤ k && w.pReserve.isNone
  if 0 < effTier s r then failTier 0 s
  else if !r.fits || !ok then fail .range s
  else if s.store.locked then fail .state s
  else if storeBusy s then fail .busy s
  else
    let tags := changedTags [(15, b != s.budget.pBase), (16, k != s.budget.vKnee), (17, f != s.budget.vFloor)]
    done .empty (saveAll tags (s.setBudget { s.budget with pBase := b, vKnee := k, vFloor := f }))

/-- WRITE_BUDGET_PARAMS (R28). -/
def execWriteBudgetParams (r : Req) (w : BudgetWrite) (s : State) : Host.Outcome State Fault Refusal :=
  .next (serve (.writeBudgetParams r w) r false (budgetWrite r w) s)

/-! ### DIRT indexes 1 and 2 (R86, R92) -/

/-- The sensing parameters a WRITE asks for. -/
def sensingWritten (w : SensingWrite) (p : SensingParams) : SensingParams :=
  ⟨carried w.fineTh p.fineTh, carried w.coarseTh p.coarseTh, carried w.length p.length, carried w.wFine p.wFine,
    carried w.wCoarse p.wCoarse⟩

/-- The ranges of the sensing parameters (R86). -/
def sensingOk (p : SensingParams) : Bool :=
  10 ≤ p.fineTh && p.fineTh ≤ 3000 && 10 ≤ p.coarseTh && p.coarseTh ≤ 3000 && p.fineTh < p.coarseTh &&
    20 ≤ p.length && p.length ≤ 200 && p.wFine ≤ 15 && p.wCoarse ≤ 63

/-- A WRITE of DIRT index 1 (R86); one that carries no field as in `budgetWrite` (log entry 61). -/
def dirtWrite (r : Req) (w : SensingWrite) (s : State) : Effect :=
  let p := s.dirt.params
  let q := sensingWritten w p
  if 0 < effTier s r then failTier 0 s
  else if !r.fits || !sensingOk q then fail .range s
  else if s.store.locked then fail .state s
  else if storeBusy s then fail .busy s
  else
    let tags := changedTags [(18, q.fineTh != p.fineTh), (19, q.coarseTh != p.coarseTh), (20, q.length != p.length),
      (21, q.wFine != p.wFine), (22, q.wCoarse != p.wCoarse)]
    done .empty (saveAll tags (s.setDirt { s.dirt with params := q }))

/-- WRITE_DIRT_PARAMS (R86). -/
def execWriteDirtParams (r : Req) (w : SensingWrite) (s : State) : Host.Outcome State Fault Refusal :=
  .next (serve (.writeDirtParams r w) r false (dirtWrite r w) s)

/-- The level parameters a WRITE asks for. -/
def levelsWritten (w : LevelWrite) (p : LevelParams) : LevelParams :=
  ⟨carried w.l1 p.l1, carried w.l2 p.l2, carried w.l3 p.l3, carried w.hard p.hard, carried w.lowPile p.lowPile,
    carried w.highPile p.highPile, carried w.unknown p.unknown⟩

/-- A floor multiplier's range (R92). -/
def multOk (m : Nat) : Bool := 50 ≤ m && m ≤ 300

/-- The ranges of the level parameters (R92). -/
def levelsOk (p : LevelParams) : Bool :=
  1 ≤ p.l1 && p.l1 < p.l2 && p.l2 < p.l3 && p.l3 ≤ 1000000 && multOk p.hard && multOk p.lowPile && multOk p.highPile &&
    multOk p.unknown

/-- A WRITE of DIRT index 2 (R92); one that carries no field as in `budgetWrite` (log entry 61). -/
def levelsWrite (r : Req) (w : LevelWrite) (s : State) : Effect :=
  let p := s.dirt.levels
  let q := levelsWritten w p
  if 1 < effTier s r then failTier 1 s
  else if !r.fits || !levelsOk q then fail .range s
  else if storeBusy s then fail .busy s
  else
    let tags := changedTags [(34, q.l1 != p.l1 || q.l2 != p.l2 || q.l3 != p.l3),
      (35, q.hard != p.hard || q.lowPile != p.lowPile || q.highPile != p.highPile || q.unknown != p.unknown)]
    done .empty (saveAll tags (s.setDirt { s.dirt with levels := q }))

/-- WRITE_LEVEL_PARAMS (R92). -/
def execWriteLevelParams (r : Req) (w : LevelWrite) (s : State) : Host.Outcome State Fault Refusal :=
  .next (serve (.writeLevelParams r w) r false (levelsWrite r w) s)

/-! ### FAULT (R154, R156) -/

/-- Steps 4 and 5 of R166 for the entries of FAULT that are written and cleared. -/
def faultIndex (index : Nat) : Option Code :=
  if 18 < index then some .noRecord else if index = 18 then some .kind else none

/-- A WRITE of FAULT (R156). -/
def faultWrite (r : Req) (index : Nat) (enabled : Option Bool) (otherField : Bool) (s : State) : Effect :=
  match faultIndex index with
  | some c => fail c s
  | none =>
    if 0 < effTier s r then failTier 0 s
    else if !r.fits || otherField then fail .range s
    else
      match enabled with
      | none => fail .range s
      | some true => done .empty (setEntry index { entryAt s index with enabled := true } s)
      | some false =>
        if disableable index then done .empty (setEntry index (disable (entryAt s index)) s) else fail .range s

/-- WRITE_FAULT (R156). -/
def execWriteFault (r : Req) (index : Nat) (enabled : Option Bool) (otherField : Bool) (s : State) :
    Host.Outcome State Fault Refusal :=
  .next (serve (.writeFault r index enabled otherField) r false (faultWrite r index enabled otherField) s)

/-- The entry as it stands, as an answer to CLEAR carries it (R154). -/
def entryPayload (s : State) (index : Nat) : Payload :=
  .fault index (entryAt s index) (carries index (entryAt s index).wide)

/-- A CLEAR of FAULT (R154). -/
def clearEffect (r : Req) (index : Nat) (s : State) : Effect :=
  match faultIndex index with
  | some c => fail c s
  | none =>
    let e := entryAt s index
    if clearTier index < effTier s r then failTier (clearTier index) s
    else if !r.fits then fail .range s
    else if !e.latched then done (entryPayload s index) s
    else if e.present then (s, ⟨.stillPresent, entryPayload s index, false⟩)
    else
      let s1 := setEntry index (retire e) s
      done (entryPayload s1 index) s1

/-- CLEAR (R154). -/
def execClear (r : Req) (index : Nat) (s : State) : Host.Outcome State Fault Refusal :=
  .next (serve (.clear r index) r false (clearEffect r index) s)

/-! ### GATE (R170) -/

/-- The entry a taken WRITE leaves. -/
def gateWritten (w : GateWrite) (g : Gate) : Gate :=
  { present := w.present.getD g.present
    tierLimit := carried w.tierLimit g.tierLimit
    target := g.target
    bound := g.bound.map fun b => ⟨carried w.lo b.lo, carried w.hi b.hi, w.policy.getD b.policy⟩ }

/-- The checks of a WRITE of GATE (R170). -/
def gateWriteOk (n : Nat) (w : GateWrite) (g : Gate) : Bool :=
  let bounded := w.lo.isSome || w.hi.isSome || w.policy.isSome
  let boundsOk :=
    match (gateWritten w g).bound, (builtinGates.getD n spareGate).bound with
    | some b, some built => b.lo ≤ b.hi && built.lo ≤ b.lo && b.hi ≤ built.hi
    | _, _ => !bounded
  n < 10 && !w.target && (gateWritten w g).tierLimit ≤ 3 && boundsOk

/-- A WRITE of GATE (R170); one that carries no field is taken and changes nothing (DESIGN CHOICE, log entry 61, unsafe). -/
def gateWrite (r : Req) (index : Nat) (w : GateWrite) (s : State) : Effect :=
  let g := gateAt s index
  if 15 < index then fail .noRecord s
  else if 0 < effTier s r then failTier 0 s
  else if !r.fits || !gateWriteOk index w g then fail .range s
  else
    done (.gate index (gateWritten w g)) (s.setPorts { s.ports with gates := s.ports.gates.set index (gateWritten w g) })

/-- WRITE_GATE (R170). -/
def execWriteGate (r : Req) (index : Nat) (w : GateWrite) (s : State) : Host.Outcome State Fault Refusal :=
  .next (serve (.writeGate r index w) r false (gateWrite r index w) s)

/-! ### EVENTS (R171) -/

/-- A WRITE of EVENTS (R171): kinds that leave the subscription leave the set. -/
def eventsWrite (r : Req) (kinds : Option (List EventKind)) (s : State) : Effect :=
  if !r.fits then fail .range s
  else
    match kinds with
    | none => fail .range s
    | some l =>
      let e := engineOf s r.port
      let sub := kindSet l
      done .empty (setEngine r.port { e with subscription := sub, events := e.events.filter (fun k => sub.contains k) } s)

/-- WRITE_EVENTS (R171). -/
def execWriteEvents (r : Req) (kinds : Option (List EventKind)) (s : State) : Host.Outcome State Fault Refusal :=
  .next (serve (.writeEvents r kinds) r false (eventsWrite r kinds) s)

/-! ### STORE (R179, R180) -/

/-- A number within bounds. -/
def within (lo hi n : Nat) : Bool := lo ≤ n && n ≤ hi

/-- The content checks of the owning chapters on a slot's value (R179). Of R66's checks a profile meets those on its contents, not the
one on the active profile (DESIGN CHOICE, log entry 57, unsafe). -/
def contentOk (s : State) (t : Nat) (v : List Byte) : Bool :=
  let n := leNat v
  let three (i : Nat) := leNat ((v.drop (3 * i)).take 3)
  let two (i : Nat) := leNat ((v.drop (2 * i)).take 2)
  if t ≤ 14 then calOk (calOfBytes v)
  else if t = 15 then within 100 600 n
  else if t = 16 then within 3000 4000 n && s.budget.vFloor + 50 ≤ n
  else if t = 17 then 2800 ≤ n && n + 50 ≤ s.budget.vKnee
  else if t = 18 then within 10 3000 n && n < s.dirt.params.coarseTh
  else if t = 19 then within 10 3000 n && s.dirt.params.fineTh < n
  else if t = 20 then within 20 200 n
  else if t = 21 then n ≤ 15
  else if t = 22 then n ≤ 63
  else if t ≤ 25 then ((pointsOfBytes v).map (tableOk (t - 23))).getD false
  else if t ≤ 33 then ((profileOfBytes v).map fun p => !p.present || contentsOk p.body).getD false
  else if t = 34 then levelsOk ⟨three 0, three 1, three 2, 100, 100, 100, 100⟩
  else if t = 35 then multOk (two 0) && multOk (two 1) && multOk (two 2) && multOk (two 3)
  else if t = 36 then 1000 ≤ n
  else if t = 37 then within 50 1000 n
  else if t = 38 then within 1000 6000 n
  else true

/-- The tier a WRITE of a slot needs (R179). -/
def slotTier (t : Nat) : Nat := if t ≤ 22 then 0 else if 30 ≤ t ∧ t ≤ 33 then 2 else 1

/-- A WRITE of STORE (R179): it changes only the slot. A stated length that is not the value's is answered RANGE (DEDUCED, log entry
59, unsafe). -/
def storeWrite (r : Req) (t length : Nat) (v : List Byte) (s : State) : Effect :=
  if 40 < t then fail .noRecord s
  else if t = 0 then fail .kind s
  else if slotTier t < effTier s r then failTier (slotTier t) s
  else if !r.fits || length ≠ v.length || !lengthFits t length || !contentOk s t v then fail .range s
  else if t ≤ 22 ∧ s.store.locked then failCause .locked s
  else if storeBusy s then fail .busy s
  else
    let s1 := startProgram t v s
    done (.store
      { programming := true, tag := some t, remaining := some 30, queue := s1.store.queue, locked := s1.store.locked,
        replaced := s1.store.replaced, blank := s1.store.blank }) s1

/-- WRITE_STORE (R179). -/
def execWriteStore (r : Req) (index length : Nat) (value : List Byte) (s : State) : Host.Outcome State Fault Refusal :=
  .next (serve (.writeStore r index length value) r false (storeWrite r index length value) s)

/-- UNLOCK of STORE index 0 (R180). -/
def unlockEffect (r : Req) (s : State) : Effect :=
  if 0 < effTier s r then failTier 0 s
  else if !r.fits then fail .range s
  else done .empty (s.setStore { s.store with locked := false })

/-- UNLOCK (R180). -/
def execUnlock (r : Req) (s : State) : Host.Outcome State Fault Refusal :=
  .next (serve (.unlock r) r false (unlockEffect r) s)

/-- STORE_PROGRAM_COMPLETE (R177). -/
def execStoreProgramComplete (s : State) : Host.Outcome State Fault Refusal :=
  match s.store.program with
  | none => .next s
  | some p => .next (completeProgram p (reach p.endAt s))

end Sys2Proof.Machine
end

