-- ==== Sys2Proof/Machine/Dispatch.lean ====
section
/-! DEFINITION. The meaning of every command, one arm per row of the table. -/

namespace Sys2Proof.Machine

def exec (i : Instr) (s : State) : Host.Outcome State Fault Refusal :=
  match i with
  | .powerOnReset rail strap => Sys2Proof.Machine.execPowerOnReset rail strap s
  | .reset r => Sys2Proof.Machine.execReset r s
  | .serviceReset rail strap => Sys2Proof.Machine.execServiceReset rail strap s
  | .scanStart => Sys2Proof.Machine.execScanStart s
  | .scanComplete wait codes => Sys2Proof.Machine.execScanComplete wait codes s
  | .tachPulse wait => Sys2Proof.Machine.execTachPulse wait s
  | .speedTimeout => Sys2Proof.Machine.execSpeedTimeout s
  | .spinUpTimeout => Sys2Proof.Machine.execSpinUpTimeout s
  | .stallTimeout => Sys2Proof.Machine.execStallTimeout s
  | .coastTimeout => Sys2Proof.Machine.execCoastTimeout s
  | .demandExpired => Sys2Proof.Machine.execDemandExpired s
  | .boostExpired => Sys2Proof.Machine.execBoostExpired s
  | .stopAssert => Sys2Proof.Machine.execStopAssert s
  | .stopRelease => Sys2Proof.Machine.execStopRelease s
  | .headAttach => Sys2Proof.Machine.execHeadAttach s
  | .headDetach => Sys2Proof.Machine.execHeadDetach s
  | .headDetWake level => Sys2Proof.Machine.execHeadDetWake level s
  | .wakeN => Sys2Proof.Machine.execWakeN s
  | .dockDetect strap => Sys2Proof.Machine.execDockDetect strap s
  | .undock => Sys2Proof.Machine.execUndock s
  | .strike coarse => Sys2Proof.Machine.execStrike coarse s
  | .deadTimeEnd => Sys2Proof.Machine.execDeadTimeEnd s
  | .windowClose => Sys2Proof.Machine.execWindowClose s
  | .wclPulseEnd => Sys2Proof.Machine.execWclPulseEnd s
  | .evacTimeout => Sys2Proof.Machine.execEvacTimeout s
  | .chargeHoldExpiry => Sys2Proof.Machine.execChargeHoldExpiry s
  | .storeProgramComplete => Sys2Proof.Machine.execStoreProgramComplete s
  | .settlingEnd => Sys2Proof.Machine.execSettlingEnd s
  | .standbyEntry => Sys2Proof.Machine.execStandbyEntry s
  | .dwellExpiry headDet => Sys2Proof.Machine.execDwellExpiry headDet s
  | .sleepDue headDet => Sys2Proof.Machine.execSleepDue headDet s
  | .handleTransaction bytes outFits => Sys2Proof.Machine.execHandleTransaction bytes outFits s
  | .handlePoll => Sys2Proof.Machine.execHandlePoll s
  | .responseTransmitStart port => Sys2Proof.Machine.execResponseTransmitStart port s
  | .responseSent port => Sys2Proof.Machine.execResponseSent port s
  | .frameByteTimeout port bytes => Sys2Proof.Machine.execFrameByteTimeout port bytes s
  | .frameFail port bytes => Sys2Proof.Machine.execFrameFail port bytes s
  | .frameDiscarded port => Sys2Proof.Machine.execFrameDiscarded port s
  | .read r table index => Sys2Proof.Machine.execRead r table index s
  | .readIdent r => Sys2Proof.Machine.execReadIdent r s
  | .readHistory r sel => Sys2Proof.Machine.execReadHistory r sel s
  | .readContinue r => Sys2Proof.Machine.execReadContinue r s
  | .readEvents r => Sys2Proof.Machine.execReadEvents r s
  | .writeAccount r qFull cycles => Sys2Proof.Machine.execWriteAccount r qFull cycles s
  | .writeTables r index points => Sys2Proof.Machine.execWriteTables r index points s
  | .writeBudgetParams r w => Sys2Proof.Machine.execWriteBudgetParams r w s
  | .writeSuctionParams r holdTime => Sys2Proof.Machine.execWriteSuctionParams r holdTime s
  | .writeProfile r index generation w => Sys2Proof.Machine.execWriteProfile r index generation w s
  | .announce r typeCode headId firmware => Sys2Proof.Machine.execAnnounce r typeCode headId firmware s
  | .writeDirtParams r w => Sys2Proof.Machine.execWriteDirtParams r w s
  | .writeLevelParams r w => Sys2Proof.Machine.execWriteLevelParams r w s
  | .writeBin r f fFull => Sys2Proof.Machine.execWriteBin r f fFull s
  | .writeFault r index enabled otherField => Sys2Proof.Machine.execWriteFault r index enabled otherField s
  | .writeGate r index w => Sys2Proof.Machine.execWriteGate r index w s
  | .writeEvents r kinds => Sys2Proof.Machine.execWriteEvents r kinds s
  | .writeStore r index length value => Sys2Proof.Machine.execWriteStore r index length value s
  | .clear r index => Sys2Proof.Machine.execClear r index s
  | .unlock r => Sys2Proof.Machine.execUnlock r s
  | .mode r index => Sys2Proof.Machine.execMode r index s
  | .trigger r arg => Sys2Proof.Machine.execTrigger r arg s
  | .boost r seconds => Sys2Proof.Machine.execBoost r seconds s
  | .sleep r => Sys2Proof.Machine.execSleep r s
  | .brushClaim r watts => Sys2Proof.Machine.execBrushClaim r watts s
  | .floorReport r code => Sys2Proof.Machine.execFloorReport r code s
  | .chargeRequest r current voltage resync => Sys2Proof.Machine.execChargeRequest r current voltage resync s
  | .evacRequest r => Sys2Proof.Machine.execEvacRequest r s
  | .evacDone r code => Sys2Proof.Machine.execEvacDone r code s
  | .binReset r => Sys2Proof.Machine.execBinReset r s
  | .undefinedRequest r op table index => Sys2Proof.Machine.execUndefinedRequest r op table index s

end Sys2Proof.Machine
end

