-- ==== Sys2Proof/Machine/Step.lean ====
section
/-! DEFINITION. One step of the part: the command at the front of the queue, or, on an empty queue, time. -/

namespace Sys2Proof.Machine

/-- A step: the front command runs with the queue's rest. On an empty queue a timer that has run out is taken as its row, and
otherwise one microsecond passes (log entry 2). -/
def step (s : State) : Host.Outcome State Fault Refusal :=
  match s.pending with
  | c :: rest => exec c (s.setPending rest)
  | [] =>
    match dueEvent s with
    | some e => exec e s
    | none => .next (tick s)

/-- The command a word spells put at the front of the queue; nothing where the word spells none. -/
def State.withFetchWord (s : State) (nbits w : Nat) : State :=
  match decodeTableWord nbits w with
  | some c => s.setPending (c :: s.pending)
  | none => s

end Sys2Proof.Machine
end

