-- ==== Sys2Proof/WellFormed.lean ====
section
/-! DEFINITION. Which commands are well formed: every operand lies in the width or range its field has in a frame, on a link or at
a converter (09, Frame format; 01 R2), and a row names only what its rules let it name. -/

namespace Sys2Proof

/-- A number of one byte. -/
def byteWide (n : Nat) : Bool := n < 256

/-- A number of two bytes. -/
def wordWide (n : Nat) : Bool := n < 65536

/-- A number of three bytes (10, LEVEL_THRESH). -/
def threeWide (n : Nat) : Bool := n < 16777216

/-- A number of four bytes. -/
def longWide (n : Nat) : Bool := n < 4294967296

/-- A signed number of two bytes. -/
def signedWide (x : Int) : Bool := -32768 ≤ x && x ≤ 32767

/-- A field that is not carried, or lies in its width. -/
def optWide (wide : Nat → Bool) (n : Option Nat) : Bool := n.all wide

/-- The tag has four bits and the requested tier two (09, Frame format); HANDLE_TRANSACTION receives on the handle port alone, and the
handle clocks a transaction of its own there. -/
def Req.ok (r : Req) : Bool :=
  r.tag < 16 && r.tier < 4 && (!r.received || r.port == .handle) && (r.clocks == 0 || (r.port == .handle && !r.received))

/-- The raw converter codes lie in 0..4095 (R2). -/
def codesOk (codes : PerChannel Nat) : Bool := (Machine.chanList codes).all (fun c => c ≤ 4095)

/-- A point as a payload carries it: x in two signed bytes, p in one (10). -/
def Point.wide (q : Point) : Bool := signedWide q.x && byteWide q.p

/-- Profile contents as a payload carries them (10). -/
def ProfileContents.wide (c : ProfileContents) : Bool :=
  wordWide c.sMin && wordWide c.base && wordWide c.step && wordWide c.top && byteWide c.ramp && c.bias.all signedWide

def ProfileWrite.wide : ProfileWrite → Bool
  | .absent => true
  | .present c => c.wide

/-- A start selector: a sequence of 32 bits, a count of one byte, or a kind that is neither (R99). -/
def Selector.wide : Selector → Bool
  | .sequence s => longWide s
  | .newest k => byteWide k
  | .other kind => byteWide kind

def GateWrite.wide (w : GateWrite) : Bool :=
  optWide byteWide w.tierLimit && optWide wordWide w.lo && optWide wordWide w.hi

def BudgetWrite.wide (w : BudgetWrite) : Bool :=
  optWide wordWide w.pBase && optWide wordWide w.vKnee && optWide wordWide w.vFloor && optWide wordWide w.pReserve

def SensingWrite.wide (w : SensingWrite) : Bool :=
  optWide wordWide w.fineTh && optWide wordWide w.coarseTh && optWide byteWide w.length && optWide byteWide w.wFine &&
    optWide byteWide w.wCoarse

def LevelWrite.wide (w : LevelWrite) : Bool :=
  optWide threeWide w.l1 && optWide threeWide w.l2 && optWide threeWide w.l3 && optWide wordWide w.hard &&
    optWide wordWide w.lowPile && optWide wordWide w.highPile && optWide wordWide w.unknown

/-- A subscription names each kind at most once (00, Records and sets). -/
def kindsOk (kinds : Option (List EventKind)) : Bool := kinds.all fun l => decide l.Nodup

/-- The well-formed commands. -/
def Instr.wellFormed : Instr → Bool
  | .powerOnReset _ _ => true
  | .reset r => r.ok
  | .serviceReset _ _ => true
  | .scanStart => true
  | .scanComplete _ codes => codesOk codes
  | .tachPulse _ => true
  | .speedTimeout => true
  | .spinUpTimeout => true
  | .stallTimeout => true
  | .coastTimeout => true
  | .demandExpired => true
  | .boostExpired => true
  | .stopAssert => true
  | .stopRelease => true
  | .headAttach => true
  | .headDetach => true
  | .headDetWake _ => true
  | .wakeN => true
  | .dockDetect _ => true
  | .undock => true
  | .strike _ => true
  | .deadTimeEnd => true
  | .windowClose => true
  | .wclPulseEnd => true
  | .evacTimeout => true
  | .chargeHoldExpiry => true
  | .storeProgramComplete => true
  | .settlingEnd => true
  | .standbyEntry => true
  | .dwellExpiry _ => true
  | .sleepDue _ => true
  | .handleTransaction _ _ => true
  | .handlePoll => true
  | .responseTransmitStart port => port != .handle
  | .responseSent port => port != .handle
  | .frameByteTimeout port bytes => port != .handle && !Machine.frameOk port bytes
  | .frameFail port bytes => !Machine.frameOk port bytes
  | .frameDiscarded _ => true
  | .read r table index => r.ok && table != 0 && table != 9 && (Machine.addressed r.port 1 table index).isNone
  | .readIdent r => r.ok
  | .readHistory r sel => r.ok && sel.wide
  | .readContinue r => r.ok
  | .readEvents r => r.ok
  | .writeAccount r qFull cycles => r.ok && optWide wordWide qFull && optWide wordWide cycles
  | .writeTables r index points => r.ok && index ≤ 2 && points.all Point.wide
  | .writeBudgetParams r w => r.ok && w.wide
  | .writeSuctionParams r holdTime => r.ok && wordWide holdTime
  | .writeProfile r index generation w => r.ok && index ≤ 7 && byteWide generation && w.wide
  | .announce r typeCode headId firmware => r.ok && byteWide typeCode && longWide headId && wordWide firmware
  | .writeDirtParams r w => r.ok && w.wide
  | .writeLevelParams r w => r.ok && w.wide
  | .writeBin r f fFull => r.ok && optWide wordWide f && optWide wordWide fFull
  | .writeFault r index _ _ => r.ok && index ≤ 17
  | .writeGate r index w => r.ok && index ≤ 15 && w.wide
  | .writeEvents r kinds => r.ok && kindsOk kinds
  | .writeStore r index length value => r.ok && 1 ≤ index && index ≤ 40 && byteWide length && value.length ≤ 32
  | .clear r index => r.ok && index ≤ 17
  | .unlock r => r.ok
  | .mode r index => r.ok && byteWide index
  | .trigger r arg => r.ok && byteWide arg
  | .boost r seconds => r.ok && byteWide seconds
  | .sleep r => r.ok
  | .brushClaim r watts => r.ok && wordWide watts
  | .floorReport r code => r.ok && byteWide code
  | .chargeRequest r current voltage _ => r.ok && wordWide current && wordWide voltage
  | .evacRequest r => r.ok
  | .evacDone r code => r.ok && byteWide code
  | .binReset r => r.ok
  | .undefinedRequest r op table index =>
    r.ok && byteWide op && byteWide table && byteWide index && (Machine.undefinedCode r.port op table index).isSome

end Sys2Proof
end

