-- ==== Sys2Proof/Safety.lean ====
section
/-! DEFINITION. What a safe run of the part is: the laws of the manual's chapters as predicates of State, and the words the
statements use for requests, answers and what is left unchanged. -/

namespace Sys2Proof.Machine

/-! ### Laws of the suction controller (03) -/

/-- "MSET and MEN are 0 whenever the charge session is in any state other than UNDOCKED, or the evacuation state is other than
EVAC_IDLE" (R59). -/
abbrev MotorLaw (s : State) : Prop := (docked s || evacuating s) = true → men s = false ∧ mset s = 0

/-- The suction states against causes, trips and demands (R53, and the state table of 03). -/
abbrev SuctionLaw (s : State) : Prop :=
  (inhibited s = true → s.suction.state = .inhibited ∨ s.suction.state = .tripped) ∧
    (holds s .tripSuction = true → s.suction.state = .tripped) ∧
    (s.suction.demand.isSome = men s)

/-- "P_set never exceeds the suction grant S of the latest budget evaluation" (R60), and it is 0 while the motor is not
driven. -/
abbrev SetpointLaw (s : State) : Prop :=
  s.suction.pSet ≤ s.budget.record.s ∧ (men s = false → s.suction.pSet = 0)

/-! ### Head, rest (04, 11) -/

/-- "the brush grant is 0 whenever no head is announced, the head rail is off, or a TRIP_BRUSH action holds" (R77). -/
abbrev BrushLaw (s : State) : Prop :=
  (s.head.announced = false ∨ headPwr s = false ∨ holds s .tripBrush = true) → s.head.grant = 0

/-- The rest timer runs exactly while suction is at rest (R182). -/
abbrev RestLaw (s : State) : Prop := s.power.restSince.isSome = atRest s

/-- What every step settles: the brush grant and the rest timer. -/
abbrev Settled (s : State) : Prop := (headPwr s = false → s.head.grant = 0) ∧ RestLaw s

/-! ### Dirt (05) -/

/-- "the dirt level is 0 whenever the suction state is other than RUN" (R88), with no window, no strike and no recent score; and
the ranges of the level, the hold-down count and the list of recent scores (R91, R94). -/
abbrev DirtLaw (s : State) : Prop :=
  (s.suction.state ≠ .run →
      s.dirt.level = 0 ∧ s.dirt.window = none ∧ s.dirt.strike = none ∧ s.dirt.recent = []) ∧
    s.dirt.level ≤ 3 ∧ s.dirt.holdDown ≤ 9 ∧ (s.dirt.level = 0 → s.dirt.holdDown = 0) ∧ s.dirt.recent.length ≤ 4

/-- Sequences that follow one another (R90). -/
def consecutive : List WindowRecord → Bool
  | a :: b :: l => b.seq == a.seq + 1 && consecutive (b :: l)
  | _ => true

/-- The law of the history ring (R90): at most 64 records, consecutive, the newest one before the counter. -/
abbrev RingLaw (s : State) : Prop :=
  s.dirt.ring.length ≤ 64 ∧ consecutive s.dirt.ring = true ∧ s.dirt.seq < 4294967296 ∧
    (∀ x ∈ s.dirt.ring, x.seq < 4294967296) ∧
    (s.dirt.ring.getLast?.all fun x => wrap32 (x.seq + 1) == s.dirt.seq) = true

/-! ### Account (01) -/

/-- Every list of the tables passes the checks of R19. -/
abbrev TablesLaw (s : State) : Prop :=
  tableOk 0 s.tables.ocv = true ∧ tableOk 1 s.tables.dis = true ∧ tableOk 2 s.tables.chg = true

/-- The law of the account's range (R7), with the ranges of the residue, of the cycle accumulator, of the learn total and the
empty-sync run, and of the cycle count (R7, R10, R12, R14). -/
abbrev AccountLaw (s : State) : Prop :=
  s.account.qRem ≤ s.account.qFull ∧ 1000 ≤ s.account.qFull ∧ s.account.qFull ≤ 6000 ∧
    -3600000 < s.account.residue ∧ s.account.residue < 3600000 ∧ s.account.cycleAcc < s.account.qFull ∧
    s.account.learnTotal ≤ 65535 ∧ s.account.emptyRun ≤ 4 ∧ s.account.cycleCount ≤ 65535

/-! ### Budget (02) -/

/-- The law of the budget (R36) in the record, S and B left at 0 outside ACTIVE (R26), and the ranges of the three parameters
(R27, R28). -/
abbrev BudgetLaw (s : State) : Prop :=
  s.budget.record.s + s.budget.record.b ≤ s.budget.record.pAvail ∧
    s.budget.record.pAvail ≤ s.budget.record.pAllow ∧
    (s.power.mode ≠ .active → s.budget.record.s = 0 ∧ s.budget.record.b = 0) ∧
    100 ≤ s.budget.pBase ∧ s.budget.pBase ≤ 600 ∧ 3000 ≤ s.budget.vKnee ∧ s.budget.vKnee ≤ 4000 ∧
    2800 ≤ s.budget.vFloor ∧ s.budget.vFloor + 50 ≤ s.budget.vKnee

/-! ### Charge (07) -/

/-- The charge derating at T_hot of the latest set is above 0. -/
def warm (s : State) : Bool :=
  match s.scan.latest with
  | none => false
  | some m => chargeDerating s m != 0

/-- The law of the charge grant (R125), with the facts it follows from (R130, R131, R132, R138). -/
abbrev ChargeLaw (s : State) : Prop :=
  (s.charge.stage = .undocked ∨ s.charge.stage = .negotiating ∨ s.charge.stage = .hold ∨ s.charge.stage = .faulted →
      s.charge.curGrant = 0 ∧ s.charge.voltGrant = 0) ∧
    (docked s = true → holds s .stopCharge = true → s.charge.stage = .faulted) ∧
    (evacuating s = true → s.charge.stage = .hold ∨ s.charge.stage = .faulted) ∧
    (s.charge.stage.charging = true → warm s = true)

/-! ### Bin, store, ports, faults, power (06, 10, 09, 08, 11) -/

/-- "F stays within 0..65,535" (R110), and the timer runs exactly while an exchange is open (R111, R115). -/
abbrev BinLaw (s : State) : Prop := s.bin.f ≤ 65535 ∧ s.bin.evacAt.isSome = evacuating s

/-- A tag of the store. -/
def isTag (t : Nat) : Bool := 1 ≤ t && t ≤ 40

/-- The store holds forty slots and programs tags of its own; its save queue holds each tag at most once, and nothing while the
store is free (R175, R177). -/
abbrev StoreLaw (s : State) : Prop :=
  s.store.slots.length = 40 ∧ s.store.queue.Nodup ∧ s.store.queue.all isTag = true ∧
    (s.store.program.all fun p => isTag p.tag) = true ∧ (storeBusy s = false → s.store.queue = [])

/-- The request in process on the handle port is held as the whole frame that was clocked in, which passes its check and is no
poll, with the tag of that frame (R163, R165). -/
def frameHeld (q : InProcess) : Bool :=
  frameOk .handle q.frame && !framePoll q.frame && frameWhole q.frame && frameOf q.frame == q.frame && q.tag == frameTag q.frame &&
    !q.isReset

/-- The list of the handle needs no more than two places, the request in process counted (R163); four BUSY responses wait on the
others (R164). -/
abbrev PortsLaw (s : State) : Prop :=
  s.ports.engine.handle.inProcess.all frameHeld = true ∧
  s.ports.engine.handle.waiting.length + (if s.ports.engine.handle.inProcess.isSome then 1 else 0) ≤ 2 ∧
    busyWaiting s.ports.engine.head ≤ 4 ∧ busyWaiting s.ports.engine.dock ≤ 4

/-- An event set holds only kinds the port subscribes to, each at most once (R171). -/
def eventsOk (e : Engine) : Bool := decide e.events.Nodup && e.events.all (fun k => e.subscription.contains k)

/-- The event sets of the three ports (R171). -/
abbrev EventsLaw (s : State) : Prop :=
  eventsOk s.ports.engine.handle = true ∧ eventsOk s.ports.engine.head = true ∧ eventsOk s.ports.engine.dock = true

/-- In DORMANT and SHELF the engines are stopped, no sleep is due, no settling runs and the head is cleared; SHELF is undocked
and takes no scan; STANDBY does not drive the motor (R60, R84, R174, R143, R1, R182). -/
abbrev PowerLaw (s : State) : Prop :=
  (asleep s = true →
      s.suction.demand = none ∧ s.head.attached = false ∧ s.power.sleepDue = none ∧ s.power.settlingUntil = none ∧
        s.power.dwellSince = none ∧
        (∀ p : Port, (engineOf s p).inProcess = none ∧ (engineOf s p).waiting = [] ∧ (engineOf s p).sending = none)) ∧
    (s.power.mode = .shelf → docked s = false ∧ s.scan.nextStart = none ∧ s.scan.inProgress = none) ∧
    (s.power.mode = .standby → men s = false)

/-! ### What a step leaves unchanged -/

/-- The blocks of State. -/
inductive Block where
  | clock | scan | account | tables | budget | suction | head | dirt | bin | charge | faults | ports | store | power
  deriving DecidableEq, Repr

/-- A block stands the same in two states. -/
def Block.same (b : Block) (s t : State) : Prop :=
  match b with
  | .clock => t.clock = s.clock
  | .scan => t.scan = s.scan
  | .account => t.account = s.account
  | .tables => t.tables = s.tables
  | .budget => t.budget = s.budget
  | .suction => t.suction = s.suction
  | .head => t.head = s.head
  | .dirt => t.dirt = s.dirt
  | .bin => t.bin = s.bin
  | .charge => t.charge = s.charge
  | .faults => t.faults = s.faults
  | .ports => t.ports = s.ports
  | .store => t.store = s.store
  | .power => t.power = s.power

/-- Nothing but the named blocks differs: the queue of commands and every other block stand as they stood. -/
def OnlyChanges (l : List Block) (s t : State) : Prop :=
  t.pending = s.pending ∧ t.tornCount = s.tornCount ∧ ∀ b : Block, b ∉ l → b.same s t

/-! ### Requests -/

/-- The request of a command passes steps 2 and 3 of R166: the engines run, its port's previous request is not in process, the settling
interval is over; and a row that says it processes a request received before is that request's (log entry 8). -/
def judged (s : State) (c : Instr) : Bool :=
  !asleep s && claimed s c && !((requestOf c).any (portBusy s)) && !settling s

/-- The answer to a request taken without a clamp, with a payload. -/
def okReply (p : Payload) : Reply := ⟨.ok, p, false⟩

/-- A refusal without a payload. -/
def refusal (c : Code) : Reply := ⟨c, .empty, false⟩

/-- An INVOKE of gate `n` passes steps 6 to 8 of R169 unclamped: tier, present, payload length and bounds. -/
def gateOpen (s : State) (n : Nat) (r : Req) (arg : Nat) : Bool :=
  effTier s r ≤ (gateAt s n).tierLimit && (gateAt s n).present && r.fits &&
    ((gateAt s n).bound.all fun b => b.lo ≤ arg && arg ≤ b.hi)

/-- An INVOKE of gate `n` with an argument `arg` passes steps 6 to 8 of R169 and is judged with the argument `v`: the argument itself
inside the bounds, and the bound it lies beyond under CLAMP. -/
def GateTakes (s : State) (n : Nat) (r : Req) (arg v : Nat) : Prop :=
  effTier s r ≤ (gateAt s n).tierLimit ∧ (gateAt s n).present = true ∧ r.fits = true ∧
    ((gateAt s n).bound = none ∧ v = arg ∨
      ∃ b, (gateAt s n).bound = some b ∧ b.lo ≤ b.hi ∧
        (b.lo ≤ arg ∧ arg ≤ b.hi ∧ v = arg ∨
          b.policy = .clamp ∧ (arg < b.lo ∧ v = b.lo ∨ b.hi < arg ∧ v = b.hi)))

/-- The commands that may lower the bin fill count (R110). -/
def lowersFill : Instr → Bool
  | .evacDone _ _ | .binReset _ | .writeBin _ _ _ | .powerOnReset _ _ => true
  | _ => false

/-- The commands that may unlatch a fault entry (R148): a CLEAR, a disabling, or a reset. -/
def unlatches : Instr → Bool
  | .clear _ _ | .writeFault _ _ _ _ | .powerOnReset _ _ | .serviceReset _ _ => true
  | _ => false

/-- The marks that a valid frame on a port leaves: the head port's mark and silence timer (R81), the dock port's bad-frame count
(R135), the handle silence timer (R151). -/
def LinkMarks (p : Port) (s t : State) : Prop :=
  t.head = (if p = .head then { s.head with frameSeen := true, silentSince := s.clock } else s.head) ∧
    t.charge = (if p = .dock then { s.charge with badFrames := 0 } else s.charge) ∧
    t.faults = (if p = .handle then { s.faults with handleSince := s.clock } else s.faults)

/-- The port engines but one, and the gate table, stand as they stood. -/
def OtherPortsKept (p : Port) (s t : State) : Prop :=
  t.ports.gates = s.ports.gates ∧ ∀ q : Port, q ≠ p → engineOf t q = engineOf s q

/-- The response formed last on a port answers a request with a code and a payload, the flag showing the event set (R167). -/
def AnsweredWith (r : Req) (a : Reply) (t : State) : Prop :=
  (engineOf t r.port).waiting.getLast? =
    some ⟨r.tag, !(engineOf t r.port).events.isEmpty, a.code, a.payload, true⟩

/-- A save of a tag is under way: its program carries the value its owner holds, or the tag waits on the queue (R177, R178). -/
def SaveUnderway (tag : Nat) (t : State) : Prop :=
  tag ∈ t.store.queue ∨ t.store.program = some ⟨tag, ownerValue t tag, t.clock + 30000⟩

/-- A kind joins the event set of every port that subscribes to it (R171). -/
def Raised (k : EventKind) (s t : State) : Prop :=
  ∀ p : Port, (engineOf s p).subscription.contains k = true → k ∈ (engineOf t p).events

/-- From HOLD, at the end of an exchange (R130, R132): LINK or TEMP keeps HOLD; else the stage choice is taken where the capability is
present and no entry hold stands, with the grants of the new stage from the derating and the current in use, and NEGOTIATING is entered
where not, the scan wait as it stood. -/
def HoldWithoutEvac (s t : State) : Prop :=
  t.charge.cap = s.charge.cap ∧ t.charge.holdAt = s.charge.holdAt ∧ t.charge.linkFlag = s.charge.linkFlag ∧
    t.charge.scanWait = s.charge.scanWait ∧ t.charge.totalMs = s.charge.totalMs ∧ t.charge.preMs = s.charge.preMs ∧
    t.charge.icc = s.charge.icc ∧ t.charge.fCharge = s.charge.fCharge ∧ Raised .chargeStage s t ∧
    (s.charge.linkFlag = true ∨ s.charge.temp = true → t.charge.stage = .hold ∧ t.charge.temp = s.charge.temp) ∧
    (s.charge.linkFlag = false → s.charge.temp = false →
      (s.charge.cap = none ∨ motorStopped s = false ∨ s.charge.scanWait = true →
        t.charge.stage = .negotiating ∧ t.charge.stageMs = 0) ∧
        (∀ cap m f, s.charge.cap = some cap → motorStopped s = true → s.charge.scanWait = false →
          s.scan.latest = some m → f = lookup s.tables.chg m.tHot →
          t.charge.stage =
              (if f = 0 then .hold else if m.vmin < 3000 then .precharge else if 4180 ≤ m.vmax then .cv else .cc) ∧
            t.charge.temp = decide (f = 0) ∧ t.charge.stageMs = 0 ∧
            t.charge.curGrant =
              (if t.charge.stage = .precharge then min cap.current 400
              else if t.charge.stage = .hold then 0 else min cap.current (s.charge.icc * s.charge.fCharge / 100)) ∧
            t.charge.voltGrant = (if t.charge.stage = .hold then 0 else min cap.voltage 29400))) ∧
    (t.charge.stage = .negotiating ∨ t.charge.stage = .hold → s.charge.curGrant = 0 → s.charge.voltGrant = 0 →
      t.charge.curGrant = 0 ∧ t.charge.voltGrant = 0)

/-- The part has entered ACTIVE from another power state: a scan starts, the short flag is clear, the handle silence timer
restarts, and the settling interval runs where it came from DORMANT or SHELF (R1, R26, R151, R186, R187). -/
def EnteredActive (w : WakeSource) (s t : State) : Prop :=
  t.power.mode = .active ∧ t.power.lastWake = w ∧ t.power.activeSince = t.clock ∧ t.power.dwellSince = none ∧
    t.power.settlingUntil = (if asleep s then some (t.clock + 100000) else s.power.settlingUntil) ∧
    t.scan.inProgress = some t.clock ∧ t.scan.nextStart = some (t.clock + 10000) ∧
    t.scan.afterShelf = (s.scan.afterShelf || s.power.mode == .shelf) ∧ t.budget.record.short = false ∧
    t.faults.handleSince = t.clock ∧ Raised .powerState s t

/-- The part has entered STANDBY (R182): the dwell timer starts, the scans take the period of STANDBY (R1), the budget record is
left as R26 gives, and the rail is off (R84). -/
def EnteredStandby (s t : State) : Prop :=
  t.power.mode = .standby ∧ t.power.dwellSince = some t.clock ∧ t.power.lastWake = s.power.lastWake ∧
    t.power.sleepDue = s.power.sleepDue ∧ t.scan.nextStart = some (t.scan.lastStart + 250000) ∧
    t.budget.record.s = 0 ∧ t.budget.record.b = 0 ∧ t.budget.record.limited = false ∧ t.budget.record.short = false ∧
    t.head.grant = 0 ∧ headPwr t = false ∧ Raised .powerState s t

/-- The part has entered DORMANT (R185), with what each block does there: the budget's grants (R26), suction (R69), the head record
(R84), the dirt counter (R102), the charge session (R143), the engines (R174), the scan unit (R1), and the saves (R107, R15). -/
def EnteredDormant (headDet : Bool) (s t : State) : Prop :=
  t.power.mode = .dormant ∧ t.power.settlingUntil = none ∧ t.power.sleepDue = none ∧ t.power.dwellSince = none ∧
    t.power.headSample = headDet ∧ t.scan.inProgress = none ∧ t.scan.nextStart = some (t.clock + 60000000) ∧
    t.scan.latest = s.scan.latest ∧
    t.budget = { s.budget with record := { s.budget.record with s := 0, b := 0, limited := false, short := false } } ∧
    t.account = { s.account with emptyRun := 0 } ∧ t.tables = s.tables ∧ t.bin = s.bin ∧ t.faults = s.faults ∧
    t.suction.demand = none ∧ men t = false ∧ t.suction.speed = 0 ∧ t.suction.lastPulse = none ∧
    t.suction.state = (if holds s .tripSuction then .tripped else if inhibited s then .inhibited else .off) ∧
    t.head = clearHead t.clock ∧ t.dirt.ring = [] ∧ t.dirt.cursors = ⟨.invalid, .invalid, .invalid⟩ ∧
    t.dirt.economy = false ∧ t.dirt.seq = s.dirt.seq ∧
    (s.charge.stage = .undocked → t.charge = s.charge) ∧
    (s.charge.stage ≠ .undocked → t.charge.curGrant = 0 ∧ t.charge.voltGrant = 0 ∧ t.charge.cap = none ∧
      t.charge.holdAt = none ∧ t.charge.balance = [] ∧ t.charge.scanWait = true ∧
      t.charge.stage = (if holds s .stopCharge = true ∧ s.charge.stage = .faulted then .faulted else .negotiating)) ∧
    t.ports.gates = s.ports.gates ∧
    (∀ p : Port, (engineOf t p).inProcess = none ∧ (engineOf t p).waiting = [] ∧ (engineOf t p).sending = none ∧
      (engineOf t p).events = [] ∧ (engineOf t p).subscription = (engineOf s p).subscription) ∧
    t.store.slots = s.store.slots ∧ t.store.locked = s.store.locked ∧ SaveUnderway 39 t ∧ SaveUnderway 40 t

/-! ### What a slot holds and what the load hands on (10) -/

/-- The lengths of the tag table (10, Slots and tags). -/
def TagLength (t n : Nat) : Prop :=
  t ≤ 14 ∧ n = 6 ∨ 15 ≤ t ∧ t ≤ 19 ∧ n = 2 ∨ 20 ≤ t ∧ t ≤ 22 ∧ n = 1 ∨
    23 ≤ t ∧ t ≤ 25 ∧ (∃ k, 2 ≤ k ∧ k ≤ 8 ∧ n = 1 + 3 * k) ∨ 26 ≤ t ∧ t ≤ 33 ∧ (∃ k, k ≤ 4 ∧ n = 13 + 2 * k) ∨
    t = 34 ∧ n = 9 ∨ t = 35 ∧ n = 8 ∨ 36 ≤ t ∧ n = 2

/-- Slot `t` is VALID and holds the value `v`: its own tag, a length of the tag table, and the CRC of its content (R175). -/
def StoredAt (slots : List Slot) (t : Nat) (v : List Byte) : Prop :=
  slotAt slots t = .entry t v.length v (crc8 (BitVec.ofNat 8 t :: BitVec.ofNat 8 v.length :: v)) ∧ TagLength t v.length

/-- Slot `t` is BLANK or BAD, so that its built-in default is handed (R176). -/
def Unstored (slots : List Slot) (t : Nat) : Prop := ∀ v, ¬StoredAt slots t v

/-- Slot `t` is BAD (R175). -/
def BadSlot (slots : List Slot) (t : Nat) : Prop := slotAt slots t ≠ .blank ∧ Unstored slots t

/-- A number inside its range, else the default. -/
def ranged (lo hi default n : Nat) : Nat := if lo ≤ n ∧ n ≤ hi then n else default

/-- The number `x` is what the owner of tag `t` takes from the load: the stored one inside its range, else the default. -/
def NumberLoaded (slots : List Slot) (t default lo hi x : Nat) : Prop :=
  (∀ v, StoredAt slots t v → x = ranged lo hi default (leNat v)) ∧ (Unstored slots t → x = default)

/-- A channel's pair in its ranges (R2). -/
def PairGood (gain : Nat) (offset : Int) : Prop := 1 ≤ gain ∧ gain ≤ 2097151 ∧ -65536 ≤ offset ∧ offset ≤ 65535

/-- The checks of a WRITE of TABLES (R19). -/
def TableGood (index : Nat) (l : List Point) : Prop :=
  2 ≤ l.length ∧ l.length ≤ 8 ∧ (∀ i a b, l[i]? = some a → l[i + 1]? = some b → a.x < b.x) ∧
    ∀ a ∈ l, a.p ≤ 100 ∧ (if index = 0 then 0 ≤ a.x ∧ a.x ≤ 5000 else -40 ≤ a.x ∧ a.x ≤ 125)

/-- The content checks of a present profile (R66, step 2). -/
def ContentsGood (c : ProfileContents) : Prop :=
  10 ≤ c.sMin ∧ c.sMin ≤ 600 ∧ c.sMin ≤ c.base ∧ c.base ≤ c.top ∧ c.top ≤ 600 ∧ c.step ≤ 600 ∧ 1 ≤ c.ramp ∧
    c.ramp ≤ 100 ∧ c.bias.length ≤ 4 ∧ ∀ b ∈ c.bias, -300 ≤ b ∧ b ≤ 300

/-- A profile that a slot can hold (10, Slots and tags), and that its owner takes from it (R65). -/
def ProfileGood (p : Profile) : Prop :=
  p.generation < 256 ∧ p.body.sMin < 65536 ∧ p.body.base < 65536 ∧ p.body.step < 65536 ∧ p.body.top < 65536 ∧
    p.body.ramp < 256 ∧ p.body.bias.length < 256 ∧ (∀ b ∈ p.body.bias, -32768 ≤ b ∧ b ≤ 32767) ∧
    (p.present = true → ContentsGood p.body)

/-- V_knee and V_floor after their range checks and before the joint one (R27). The range of V_floor that ends at V_knee − 50 is
DEDUCED (log entry 17). -/
def VoltsHanded (slots : List Slot) (knee floor : Nat) : Prop :=
  NumberLoaded slots 16 3400 3000 4000 knee ∧ NumberLoaded slots 17 3000 2800 (knee - 50) floor

/-- FINE_TH and COARSE_TH after their range checks and before the joint one (R86). -/
def ThresholdsHanded (slots : List Slot) (fine coarse : Nat) : Prop :=
  NumberLoaded slots 18 120 10 3000 fine ∧ NumberLoaded slots 19 480 10 3000 coarse

/-- L1, L2 and L3 after their range checks and before the joint one (R92). -/
def MarksHanded (slots : List Slot) (a b c : Nat) : Prop :=
  (Unstored slots 34 → a = 40 ∧ b = 120 ∧ c = 300) ∧
    ∀ v, StoredAt slots 34 v → a = ranged 1 1000000 40 (leNat (v.take 3)) ∧
      b = ranged 1 1000000 120 (leNat ((v.drop 3).take 3)) ∧ c = ranged 1 1000000 300 (leNat (v.drop 6))

/-- The tags whose value is one number with a fixed range, with the range (R27, R52, R86, R110). -/
def numberRanges : List (Nat × Nat × Nat) :=
  [(15, 100, 600), (16, 3000, 4000), (18, 10, 3000), (19, 10, 3000), (20, 20, 200), (21, 0, 15), (22, 0, 63),
    (36, 1000, 65535), (37, 50, 1000)]

/-- A check of its owner replaces the value that tag `t` hands at a load (R2, R20, R22, R27, R52, R65, R86, R92, R110); `fresh` is the
power-on reset, at which alone the account takes Q_full (R23). -/
def CheckReplaces (fresh : Bool) (slots : List Slot) (t : Nat) : Prop :=
  (∃ v, StoredAt slots t v ∧
    (t ≤ 14 ∧ ¬PairGood (leNat (v.take 3)) (leInt (v.drop 3)) ∨
      (∃ lo hi, (t, lo, hi) ∈ numberRanges ∧ ¬(lo ≤ leNat v ∧ leNat v ≤ hi)) ∨
      (23 ≤ t ∧ t ≤ 25 ∧ ∀ l, TableGood (t - 23) l → v ≠ pointsBytes l) ∨
      (26 ≤ t ∧ t ≤ 33 ∧ ∀ p, ProfileGood p → v ≠ profileBytes p) ∨
      (t = 34 ∧ ∃ i, i ≤ 2 ∧ ¬(1 ≤ leNat ((v.drop (3 * i)).take 3) ∧ leNat ((v.drop (3 * i)).take 3) ≤ 1000000)) ∨
      (t = 35 ∧ ∃ i, i ≤ 3 ∧ ¬(50 ≤ leNat ((v.drop (2 * i)).take 2) ∧ leNat ((v.drop (2 * i)).take 2) ≤ 300)) ∨
      (t = 38 ∧ fresh = true ∧ ¬(1000 ≤ leNat v ∧ leNat v ≤ 6000)))) ∨
    (t = 17 ∧ ∃ knee floor v, VoltsHanded slots knee floor ∧ StoredAt slots 17 v ∧
      ¬(2800 ≤ leNat v ∧ leNat v ≤ knee - 50)) ∨
    ((t = 16 ∨ t = 17) ∧ ∃ knee floor, VoltsHanded slots knee floor ∧ knee < floor + 50) ∨
    ((t = 18 ∨ t = 19) ∧ ∃ fine coarse, ThresholdsHanded slots fine coarse ∧ coarse ≤ fine) ∨
    (t = 34 ∧ ∃ a b c, MarksHanded slots a b c ∧ ¬(a < b ∧ b < c))

/-- What the load of R176 hands on from forty slots, each value checked by its owner: a VALID slot's stored value, a BLANK or BAD
slot's built-in default, a default in the place of what fails its owner's check; and the tags handed to CAL_INTEGRITY. -/
structure LoadedFrom (fresh : Bool) (slots : List Slot) (l : Loaded) : Prop where
  /-- R2 -/
  cal : ∀ (k : Nat) (pair default : CalPair), (chanList l.cal)[k]? = some pair →
    (chanList defaultCal)[k]? = some default → (Unstored slots (k + 1) → pair = default) ∧
      ∀ v, StoredAt slots (k + 1) v →
        (PairGood (leNat (v.take 3)) (leInt (v.drop 3)) → pair = ⟨leNat (v.take 3), leInt (v.drop 3)⟩) ∧
          (¬PairGood (leNat (v.take 3)) (leInt (v.drop 3)) → pair = default)
  /-- R27 -/
  pBase : NumberLoaded slots 15 450 100 600 l.pBase
  /-- R27 -/
  volts : ∃ knee floor, VoltsHanded slots knee floor ∧
    (l.vKnee, l.vFloor) = if knee < floor + 50 then (3400, 3000) else (knee, floor)
  /-- R86 -/
  thresholds : ∃ fine coarse, ThresholdsHanded slots fine coarse ∧
    (l.sensing.fineTh, l.sensing.coarseTh) = if coarse ≤ fine then (120, 480) else (fine, coarse)
  /-- R86 -/
  window : NumberLoaded slots 20 50 20 200 l.sensing.length ∧ NumberLoaded slots 21 1 0 15 l.sensing.wFine ∧
    NumberLoaded slots 22 8 0 63 l.sensing.wCoarse
  /-- R20 -/
  tables : ∀ (i : Nat) (list default : List Point),
    [(l.tables.ocv, defaultOcv), (l.tables.dis, defaultDis), (l.tables.chg, defaultChg)][i]? = some (list, default) →
    (∀ q, TableGood i q → StoredAt slots (23 + i) (pointsBytes q) → list = q) ∧
      ((∀ q, TableGood i q → ¬StoredAt slots (23 + i) (pointsBytes q)) → list = default)
  /-- R65 -/
  profiles : l.profiles.length = 8 ∧
    ∀ (i : Nat) (p default : Profile), l.profiles[i]? = some p → defaultProfiles[i]? = some default →
      (∀ q, ProfileGood q → StoredAt slots (26 + i) (profileBytes q) → p = q) ∧
        ((∀ q, ProfileGood q → ¬StoredAt slots (26 + i) (profileBytes q)) → p = default)
  /-- R92 -/
  marks : ∃ a b c, MarksHanded slots a b c ∧
    (l.levels.l1, l.levels.l2, l.levels.l3) = if a < b ∧ b < c then (a, b, c) else (40, 120, 300)
  /-- R92 -/
  multipliers : (Unstored slots 35 →
      l.levels.hard = 100 ∧ l.levels.lowPile = 130 ∧ l.levels.highPile = 170 ∧ l.levels.unknown = 100) ∧
    ∀ v, StoredAt slots 35 v → l.levels.hard = ranged 50 300 100 (leNat (v.take 2)) ∧
      l.levels.lowPile = ranged 50 300 130 (leNat ((v.drop 2).take 2)) ∧
      l.levels.highPile = ranged 50 300 170 (leNat ((v.drop 4).take 2)) ∧
      l.levels.unknown = ranged 50 300 100 (leNat (v.drop 6))
  /-- R110 -/
  fFull : NumberLoaded slots 36 40000 1000 65535 l.fFull
  /-- R52 -/
  holdTime : NumberLoaded slots 37 250 50 1000 l.holdTime
  /-- R22 -/
  qFull : (Unstored slots 38 → l.qFull = 4000) ∧
    ∀ v, StoredAt slots 38 v → l.qFull = max 1000 (min 6000 (leNat v))
  /-- R22 -/
  cycles : NumberLoaded slots 39 0 0 65535 l.cycles
  /-- R110 -/
  f : NumberLoaded slots 40 0 0 65535 l.f
  /-- R176 -/
  integrity : ∀ t, t ∈ l.integrity ↔ 1 ≤ t ∧ t ≤ 40 ∧ (BadSlot slots t ∨ CheckReplaces fresh slots t)

/-- The slots that a reset loads: a program in progress has left its slot cut short (R175, R181). -/
def slotsAtReset (s : State) : List Slot :=
  match s.store.program with
  | none => s.store.slots
  | some p => s.store.slots.set (p.tag - 1) (.torn s.tornCount)

/-- The replaced and the blank count of a load (R176): how many of the forty slots are BAD, and how many BLANK. -/
def CountsOf (slots : List Slot) (replaced blank : Nat) : Prop :=
  ∃ bad empty : List Nat, bad.Nodup ∧ empty.Nodup ∧ replaced = bad.length ∧ blank = empty.length ∧
    (∀ t, t ∈ bad ↔ 1 ≤ t ∧ t ≤ 40 ∧ BadSlot slots t) ∧
    ∀ t, t ∈ empty ↔ 1 ≤ t ∧ t ≤ 40 ∧ slotAt slots t = .blank

/-- The CAL_INTEGRITY entry after a load (R149, R176): latched exactly where a tag was handed, as a one-shot with a tag as its last
value. -/
def IntegrityEntry (tags : List Nat) (seq : Nat) (e : FaultEntry) : Prop :=
  (tags = [] → e = clearEntry) ∧
    (tags ≠ [] → e.latched = true ∧ e.present = false ∧ e.enabled = true ∧ e.latchSeq = some seq ∧
      e.occurrences = min 255 tags.length ∧ ∃ t ∈ tags, e.lastValue = some (t : Int))

/-- The content checks of the owning chapters on a slot's value (R179 step 1), a partner value standing in its owning block (DEDUCED,
log entry 34); of R66's checks those on the contents (the model's choice, log entry 57). -/
def SlotContent (s : State) (t : Nat) (v : List Byte) : Prop :=
  (t ≤ 14 → PairGood (leNat (v.take 3)) (leInt (v.drop 3))) ∧
    (∀ lo hi, (t, lo, hi) ∈ numberRanges → lo ≤ leNat v ∧ leNat v ≤ hi) ∧
    (t = 16 → s.budget.vFloor + 50 ≤ leNat v) ∧ (t = 17 → 2800 ≤ leNat v ∧ leNat v + 50 ≤ s.budget.vKnee) ∧
    (t = 18 → leNat v < s.dirt.params.coarseTh) ∧ (t = 19 → s.dirt.params.fineTh < leNat v) ∧
    (23 ≤ t → t ≤ 25 → ∃ l, TableGood (t - 23) l ∧ v = pointsBytes l) ∧
    (26 ≤ t → t ≤ 33 → ∃ p, ProfileGood p ∧ v = profileBytes p) ∧
    (t = 34 → 1 ≤ leNat (v.take 3) ∧ leNat (v.take 3) < leNat ((v.drop 3).take 3) ∧
      leNat ((v.drop 3).take 3) < leNat (v.drop 6) ∧ leNat (v.drop 6) ≤ 1000000) ∧
    (t = 35 → ∀ i, i ≤ 3 → 50 ≤ leNat ((v.drop (2 * i)).take 2) ∧ leNat ((v.drop (2 * i)).take 2) ≤ 300) ∧
    (t = 38 → 1000 ≤ leNat v ∧ leNat v ≤ 6000)

/-! ### Tiers and gates of requests (09) -/

/-- The tier a request needs (R161), as the owning chapters give it; `none` for those served at every tier. -/
def tierNeeded (s : State) : Instr → Option Nat
  | .reset _ => some 0
  | .writeAccount _ _ _ => some 0
  | .writeTables _ index _ => some (if index = 0 then 0 else 1)
  | .writeBudgetParams _ _ => some 0
  | .writeSuctionParams _ _ => some 1
  | .writeProfile _ index _ _ => some (if index ≤ 3 then 1 else 2)
  | .writeDirtParams _ _ => some 0
  | .writeLevelParams _ _ => some 1
  | .writeBin _ _ _ => some 0
  | .writeFault _ _ _ _ => some 0
  | .writeGate _ _ _ => some 0
  | .writeStore _ index _ _ => some (if index ≤ 22 then 0 else if 30 ≤ index ∧ index ≤ 33 then 2 else 1)
  | .clear _ index =>
    some (if index = 9 ∨ index = 10 then 3 else if index ∈ [0, 1, 3, 11, 13, 14, 15, 16] then 1 else 2)
  | .unlock _ => some 0
  | .mode _ _ => some (gateAt s 0).tierLimit
  | .trigger _ _ => some (gateAt s 1).tierLimit
  | .boost _ _ => some (gateAt s 2).tierLimit
  | .sleep _ => some (gateAt s 3).tierLimit
  | .brushClaim _ _ => some (gateAt s 4).tierLimit
  | .floorReport _ _ => some (gateAt s 5).tierLimit
  | .chargeRequest _ _ _ _ => some (gateAt s 6).tierLimit
  | .evacRequest _ => some (gateAt s 7).tierLimit
  | .evacDone _ _ => some (gateAt s 8).tierLimit
  | .binReset _ => some (gateAt s 9).tierLimit
  | _ => none

/-- The gate an INVOKE names, with its bounded argument where the gate takes one. -/
def invokeOf : Instr → Option (Nat × Option Nat)
  | .mode _ index => some (0, some index)
  | .trigger _ arg => some (1, some arg)
  | .boost _ seconds => some (2, some seconds)
  | .sleep _ => some (3, none)
  | .brushClaim _ watts => some (4, some watts)
  | .floorReport _ code => some (5, some code)
  | .chargeRequest _ current _ _ => some (6, some current)
  | .evacRequest _ => some (7, none)
  | .evacDone _ code => some (8, some code)
  | .binReset _ => some (9, none)
  | _ => none

/-- The operation, the table and the index that a request's frame names (09, Frame format, Tables, The gate table). -/
def addressOf : Instr → Option (Nat × Nat × Nat)
  | .reset _ => some (7, 16, 0)
  | .read _ table index => some (1, table, index)
  | .readIdent _ => some (1, 0, 0)
  | .readHistory _ _ => some (1, 9, 0)
  | .readContinue _ => some (3, 9, 0)
  | .readEvents _ => some (8, 14, 0)
  | .writeAccount _ _ _ => some (2, 1, 0)
  | .writeTables _ index _ => some (2, 3, index)
  | .writeBudgetParams _ _ => some (2, 4, 1)
  | .writeProfile _ index _ _ => some (2, 5, index)
  | .writeSuctionParams _ _ => some (2, 6, 1)
  | .announce _ _ _ _ => some (2, 7, 0)
  | .writeDirtParams _ _ => some (2, 8, 1)
  | .writeLevelParams _ _ => some (2, 8, 2)
  | .writeBin _ _ _ => some (2, 10, 0)
  | .writeFault _ index _ _ => some (2, 12, index)
  | .writeGate _ index _ => some (2, 13, index)
  | .writeEvents _ _ => some (2, 14, 0)
  | .writeStore _ index _ _ => some (2, 15, index)
  | .clear _ index => some (4, 12, index)
  | .unlock _ => some (6, 15, 0)
  | .mode _ _ => some (5, 13, 0)
  | .trigger _ _ => some (5, 13, 1)
  | .boost _ _ => some (5, 13, 2)
  | .sleep _ => some (5, 13, 3)
  | .brushClaim _ _ => some (5, 13, 4)
  | .floorReport _ _ => some (5, 13, 5)
  | .chargeRequest _ _ _ _ => some (5, 13, 6)
  | .evacRequest _ => some (5, 13, 7)
  | .evacDone _ _ => some (5, 13, 8)
  | .binReset _ => some (5, 13, 9)
  | .undefinedRequest _ op table index => some (op, table, index)
  | _ => none

/-- The commands that reset the part. -/
def resets : Instr → Bool
  | .powerOnReset _ _ | .serviceReset _ _ => true
  | _ => false

end Sys2Proof.Machine
end

