-- ==== Sys2Proof/Certificates/Slice0/Obligations.lean ====
section
/-! DEFINITION. The statements for the provers, family by family. Hypotheses are on the state and the operands alone; `Settled`
(the brush grant and the rest timer are as every step leaves them) is itself a statement below. -/

open Sys2Proof Sys2Proof.Machine

/-! ### The queue and time -/

/-- The task's own rule: a step runs the front command with the queue's rest. -/
def Obligations.StepRunsTheFrontCommand : Prop :=
  ∀ (c : Instr) (rest : List Instr) (s : State), s.pending = c :: rest → step s = exec c (s.setPending rest)

/-- The model's choice (log entries 2, 8): on an empty queue the request received on the handle port, or a timer that has run out,
is taken as its row, else 1 µs passes. -/
def Obligations.EmptyQueueTakesADueTimerOrTicks : Prop :=
  ∀ s : State, s.pending = [] →
    (dueEvents s = [] → step s = .next (s.setClock (s.clock + 1))) ∧
      (∀ e l, dueEvents s = e :: l → step s = exec e s)

/-! ### The request ports (09) -/

/-- R174: in DORMANT and SHELF every arriving frame is discarded unread. -/
def Obligations.SleepingPortsDiscardFrames : Prop :=
  ∀ s : State, asleep s = true →
    (∀ c r, requestOf c = some r → exec c s = .next s) ∧
      (∀ bytes fits, exec (.handleTransaction bytes fits) s = .next s) ∧
      exec .handlePoll s = .next s ∧ (∀ p bytes, exec (.frameFail p bytes) s = .next s) ∧
      (∀ p bytes, exec (.frameByteTimeout p bytes) s = .next s) ∧
      (∀ p, exec (.frameDiscarded p) s = .next s)

/-- R165: a request that arrives while its port's previous one is in process is answered BUSY and changes nothing but the
link's marks; the request in process continues, and what waits and what is being sent stand as they stood. On the head and dock
ports a BUSY formed while four wait is dropped (R164); that the four are those on the transmit list, without one that is being
sent, is DEDUCED (log entry 37). That a request command is a handle transaction of its own unless it processes one received
before, and that State keeps the response last delivered, is the model's choice (log entries 6, 8). -/
def Obligations.BusyPortAnswersBusy : Prop :=
  ∀ c r s, requestOf c = some r → c.wellFormed = true → asleep s = false → portBusy s r = true →
    ∃ t, exec c s = .next t ∧ OnlyChanges [.ports, .head, .charge, .faults] s t ∧ LinkMarks r.port s t ∧
      OtherPortsKept r.port s t ∧
      engineOf t r.port =
        { engineOf s r.port with
          delivered :=
            if r.port = .handle then oldestOut (max 7 r.clocks) (engineOf s r.port).waiting else (engineOf s r.port).delivered
          waiting :=
            (if r.port = .handle then (engineOf s r.port).waiting.tail else (engineOf s r.port).waiting) ++
              (if r.port = .handle ∨ busyWaiting (engineOf s r.port) < 4 then
                [⟨r.tag, !(engineOf s r.port).events.isEmpty, .busy, .empty, false⟩]
              else []) }

/-- R166 steps 3 and 4, R186: during settling every request but a READ of IDENT is answered SETTLING; a READ of IDENT with an index
above 0, a form of UNDEFINED_REQUEST, goes on to NO_RECORD. -/
def Obligations.SettlingAnswersSettling : Prop :=
  ∀ c r s, requestOf c = some r → c.wellFormed = true → asleep s = false → claimed s c = true →
    portBusy s r = false → settling s = true →
    ((∀ q, c ≠ .readIdent q) → (∀ i, c ≠ .undefinedRequest r 1 0 i) →
      exec c s = .next (answer r (refusal .settling) (arrive r s))) ∧
      (Settled s → ∀ i, c = .undefinedRequest r 1 0 i → exec c s = .next (answer r (refusal .noRecord) (arrive r s)))

/-- R81, R135, R151, R163, R164, R165, R167: what the arrival of a request's frame does, and what forming its response does.
That a request command is a handle transaction of its own unless it processes one received before, at which no frame arrives, that
it reads 7 bytes at least, and that State keeps what was last delivered, is the model's choice (log entries 6, 8). -/
def Obligations.ArrivalAndAnswer : Prop :=
  ∀ (r : Req) (a : Reply) (s : State),
    (r.received = true → arrive r s = s) ∧
      (r.received = false →
        OnlyChanges [.ports, .head, .charge, .faults] s (arrive r s) ∧ LinkMarks r.port s (arrive r s) ∧
          OtherPortsKept r.port s (arrive r s) ∧ (r.port ≠ .handle → (arrive r s).ports = s.ports) ∧
          (r.port = .handle →
            engineOf (arrive r s) .handle =
              { engineOf s .handle with
                delivered :=
                  (match (engineOf s .handle).waiting with
                  | [] => .empty (List.replicate (max 7 r.clocks) 0)
                  | x :: _ => .response x (x.bytes ++ List.replicate (max 7 r.clocks - x.bytes.length) 0))
                waiting := (engineOf s .handle).waiting.tail })) ∧
      OnlyChanges [.ports] s (answer r a s) ∧ OtherPortsKept r.port s (answer r a s) ∧
      engineOf (answer r a s) r.port =
        { engineOf s r.port with
          waiting := (engineOf s r.port).waiting ++
            [⟨r.tag, !(engineOf s r.port).events.isEmpty, a.code, a.payload, true⟩]
          inProcess := if r.port = .handle then none else some ⟨r.tag, a.isReset, []⟩ }

/-- R161 and R166 step 6: a request under an effective tier above the one it needs is answered TIER, with the tier it needs. -/
def Obligations.TierRefusals : Prop :=
  ∀ c r n s, requestOf c = some r → c.wellFormed = true → tierNeeded s c = some n → judged s c = true →
    n < effTier s r → Settled s →
    exec c s = .next (answer r ⟨.tier, .needTier n, false⟩ (arrive r s))

/-- R166 steps 4, 5 and 7, R168, R169: what is not defined is answered NO_RECORD, KIND or ABSENT, and nothing else happens. Of an
INVOKE, after the tier, a gate that is not present is answered ABSENT; then a payload that does not fit, and an argument outside
the bounds under REFUSE, are answered RANGE (MODE's absent profile comes before, R51). That gates 10 to 15 are answered ABSENT at
every tier, never TIER, rests on the tier limit 3 that the model chose for them (log entry 9). -/
def Obligations.RequestChecksComeInOrder : Prop :=
  (∀ (r : Req) (op table index : Nat) (s : State), Settled s →
    (judged s (.undefinedRequest r op table index) = true → 16 < table ∨ lastIndex table < index →
      exec (.undefinedRequest r op table index) s = .next (answer r (refusal .noRecord) (arrive r s))) ∧
      (judged s (.undefinedRequest r op table index) = true → table ≤ 16 → index ≤ lastIndex table →
        opDefined r.port op table index = false →
        exec (.undefinedRequest r op table index) s = .next (answer r (refusal .kind) (arrive r s))) ∧
      (judged s (.undefinedRequest r 5 13 index) = true → 10 ≤ index → index ≤ 15 →
        exec (.undefinedRequest r 5 13 index) s = .next (answer r (refusal .absent) (arrive r s)))) ∧
  ∀ c r n arg s, requestOf c = some r → invokeOf c = some (n, arg) → judged s c = true → Settled s →
    effTier s r ≤ (gateAt s n).tierLimit →
    ((gateAt s n).present = false → exec c s = .next (answer r (refusal .absent) (arrive r s))) ∧
      ((gateAt s n).present = true → (∀ q i, c = .mode q i → profileMissing i s = false) →
        (r.fits = false → exec c s = .next (answer r (refusal .range) (arrive r s))) ∧
          (∀ b a, r.fits = true → (gateAt s n).bound = some b → arg = some a → b.policy = .refuse →
            ¬(b.lo ≤ a ∧ a ≤ b.hi) → exec c s = .next (answer r (refusal .range) (arrive r s))))

/-- R166: "The first check that fails gives the outcome, and the request changes nothing": a judged request that is not answered OK or
CLAMPED leaves the state as its arrival left it but for its answer. Left out is a TRIGGER answered STATE in STANDBY, whose press brings
the part to ACTIVE before it is judged (log entry 35, DEDUCED; PressesCreateDemands says what it does). -/
def Obligations.RefusedRequestsChangeNothing : Prop :=
  ∀ c r s t x, requestOf c = some r → c.wellFormed = true → judged s c = true → Settled s →
    exec c s = .next t → (engineOf t r.port).waiting.getLast? = some x → x.code ≠ .ok → x.code ≠ .clamped →
    s.power.mode = .active ∨ x.code ≠ .state ∨ (∀ q a, c ≠ .trigger q a) →
    ∃ a, a.isReset = false ∧ a.code = x.code ∧ t = answer r a (arrive r s)

/-- R163, R165, R167: every response, in bytes and by its outcome. Its frame carries the length, the tag echo with the events-pending
flag, the outcome's code, the payload and the check; a request that is judged has its tag echoed, the flag shows the port's event set
after its own effect, and the payload is the one of its outcome. How many bytes a payload has, and which they are, is free but for an
empty one (log entry 63). -/
def Obligations.ResponsesAreFilledByTheirOutcome : Prop :=
  (∀ x : Response, x.tag < 16 → ∃ (code : Nat) (payload : List Byte),
    (x.code, code) ∈ ([(.ok, 0), (.clamped, 1), (.busy, 2), (.frame, 3), (.settling, 4), (.noRecord, 5), (.kind, 6), (.tier, 7),
      (.absent, 8), (.range, 9), (.stale, 10), (.state, 11), (.stillPresent, 12)] : List (Code × Nat)) ∧
      payload.length ≤ 32 ∧ (x.payload = .empty → payload = []) ∧
      ∃ body, body = BitVec.ofNat 8 (payload.length + 2) ::
          BitVec.ofNat 8 (x.tag * 16 + (if x.pending = true then 1 else 0)) :: BitVec.ofNat 8 code :: payload ∧
        x.bytes = body ++ [crc8 body] ∧ (x.bytes.getD 1 0).toNat / 16 = x.tag ∧
        (x.pending = true ↔ (x.bytes.getD 1 0).toNat % 16 = 1)) ∧
  ∀ c r s t x, requestOf c = some r → c.wellFormed = true → judged s c = true → exec c s = .next t →
    (engineOf t r.port).waiting.getLast? = some x →
    x.tag = r.tag ∧ x.pending = !(engineOf t r.port).events.isEmpty ∧ x.ofRequest = true ∧
      (x.code = .busy ∨ x.code = .frame ∨ x.code = .settling ∨ x.code = .noRecord ∨ x.code = .kind ∨ x.code = .absent ∨
        x.code = .range → x.payload = .empty) ∧
      (x.code = .tier → ∃ n, tierNeeded s c = some n ∧ x.payload = .needTier n) ∧
      (x.code = .stale → ∃ i, (∃ g w, c = .writeProfile r i g w) ∧ x.payload = .generation (profileAt s i).generation) ∧
      (x.code = .state → x.payload = .empty ∨ ∃ k, x.payload = .cause k) ∧
      (x.code = .stillPresent → ∃ i, c = .clear r i ∧
        x.payload = .fault i (entryAt s i) (carries i (entryAt s i).wide))

/-- R73, R168: a READ returns the record as it stands and changes nothing else, at every tier; a READ of IDENT is served during
settling too, and on the head port it sets ident read while a head is attached. -/
def Obligations.ReadsReturnTheRecord : Prop :=
  (∀ (r : Req) (table index : Nat) (s : State), (Instr.read r table index).wellFormed = true →
    judged s (.read r table index) = true →
    Settled s → r.fits = true →
    exec (.read r table index) s =
      .next (answer r (okReply (readPayload r.port table index (arrive r s))) (arrive r s))) ∧
    ∀ (r : Req) (s : State), asleep s = false → claimed s (.readIdent r) = true → portBusy s r = false → Settled s →
      r.fits = true →
      exec (.readIdent r) s =
        .next (answer r (okReply (.ident 7340 1 r.port (portTier s r.port) (settling s)))
          (if r.port = .head ∧ s.head.attached = true then
            (arrive r s).setHead { (arrive r s).head with identRead := true }
          else arrive r s))

/-- R6, R16, R17, R19, R28, R41, R52, R59, R68, R76, R81, R83, R86, R92, R98, R105, R109, R115, R123, R130, R142, R152, R153, R158,
R170, R171, R172, R175, R179, R182, R183, R187: what a READ of each table returns. That remaining and elapsed times are whole units
rounded down is DEDUCED (log entry 32), as are the standby dwell's 0 outside STANDBY (log entry 28) and the order in which a set is
listed (log entry 39); a slot cut short reads as free values (log entry 5); how many FFh bytes a BLANK slot returns is the model's
choice (log entry 56), and so is that the handle silence timer has no bound (log entry 55). -/
def Obligations.ReportedValues : Prop :=
  ∀ (p : Port) (s : State),
    readPayload p 1 0 s =
        .account ⟨s.account.lastSeq, s.account.qRem, s.account.residue, s.account.qFull,
          s.account.qRem * 100 / s.account.qFull,
          s.account.qRem * ((s.scan.latest.map MeasurementSet.packV).getD 0).toNat / 1000, s.account.estimated,
          s.account.learnActive, s.account.learnTotal, s.account.emptyRun, s.account.cycleAcc, s.account.cycleCount⟩ ∧
      (s.scan.latest = none → ∀ i, readPayload p 2 i s = .scanNone 0) ∧
      (∀ m, s.scan.latest = some m →
        readPayload p 2 0 s =
            .scanCells m.seq
              [m.value.cell1, m.value.cell2, m.value.cell3, m.value.cell4, m.value.cell5, m.value.cell6, m.value.cell7]
              m.vmin m.vmax m.packV m.elapsed ∧
          ∃ l, readPayload p 2 1 s =
              .scanRest m.seq m.value.packI m.value.motorI m.value.brushI m.value.tempA m.value.tempB m.value.tempStage
                m.tHot m.value.dockV l ∧
            ∀ k, k ∈ l ↔ 1 ≤ k ∧ (chanList m.suspect)[k - 1]? = some true) ∧
      readPayload p 3 0 s = .points s.tables.ocv ∧ readPayload p 3 1 s = .points s.tables.dis ∧
      readPayload p 3 2 s = .points s.tables.chg ∧ readPayload p 4 0 s = .budget s.budget.record ∧
      readPayload p 4 1 s = .budgetParams s.budget.pBase s.budget.vKnee s.budget.vFloor 6 ∧
      (∀ i, readPayload p 5 i s = .profile (profileAt s i)) ∧
      (∃ v, readPayload p 6 0 s = .suction v ∧ v.state = s.suction.state ∧ v.speed = s.suction.speed ∧
        v.men = (s.suction.state == .spinUp || s.suction.state == .run) ∧
        v.mset = (if s.suction.state = .spinUp ∨ s.suction.state = .run then s.suction.pSet * 1023 / 600 else 0) ∧
        (.stop ∈ v.causes ↔ s.suction.stop = true) ∧ (.dock ∈ v.causes ↔ s.charge.stage ≠ .undocked) ∧
        (.evacuation ∈ v.causes ↔ s.bin.evac ≠ .idle) ∧ v.demand = s.suction.demand.isSome ∧
        v.source = s.suction.demand.map Demand.source ∧
        (∀ d, s.suction.demand = some d → v.holdRemaining = (d.holdAt - s.clock) / 1000 ∧ v.boost = d.boostAt.isSome ∧
          ∀ b, d.boostAt = some b → v.boostRemaining = (b - s.clock) / 1000) ∧
        (s.suction.demand = none → v.holdRemaining = 0 ∧ v.boost = false ∧ v.boostRemaining = 0) ∧
        v.lastEnd = s.suction.lastEnd ∧ v.activeProfile = s.suction.activeProfile ∧ v.pSet = s.suction.pSet ∧
        v.timeInState = min 65535 ((s.clock - s.suction.since) / 1000)) ∧
      readPayload p 6 1 s = .holdTime s.suction.holdTime ∧
      (∃ v, readPayload p 7 0 s = .head v ∧ v.attached = s.head.attached ∧ v.identRead = s.head.identRead ∧
        v.announced = s.head.announced ∧ v.type = s.head.type ∧ v.id = s.head.id ∧ v.firmware = s.head.firmware ∧
        v.cap = (if s.head.type = .motorBrush then 60 else if s.head.type = .softRoller then 30 else 0) ∧
        v.floor = s.head.floor ∧ v.claim = s.head.claim ∧ v.grant = s.head.grant ∧
        v.rail =
          (if s.head.attached = false then .off else if s.head.announced = false then .waitAnnounce
          else if s.head.type ≠ .none ∧ s.power.mode = .active ∧ s.charge.stage = .undocked ∧
            holds s .tripBrush = false then .on
          else .off) ∧
        (∀ c, c ∈ v.causes ↔ s.head.attached = true ∧ s.head.announced = true ∧
          (c = .trip ∧ holds s .tripBrush = true ∨ c = .notActive ∧ s.power.mode ≠ .active ∨
            c = .docked ∧ s.charge.stage ≠ .undocked ∨ c = .notPowered ∧ s.head.type = .none)) ∧
        v.frameSeen = s.head.frameSeen ∧
        v.silence = (if asleep s = true then 0 else min 65535 ((s.clock - s.head.silentSince) / 1000))) ∧
      (∃ v, readPayload p 8 0 s = .dirt v ∧ v.level = s.dirt.level ∧ v.holdDown = s.dirt.holdDown ∧
        v.economy = s.dirt.economy ∧ v.windowOpen = s.dirt.window.isSome ∧
        (∀ w, s.dirt.window = some w → v.fine = w.fine ∧ v.coarse = w.coarse ∧
          v.elapsed = min 200 ((s.clock - w.openedAt) / 1000) ∧ v.windowEconomy = w.economy ∧ v.windowFirst = w.first) ∧
        (s.dirt.window = none → v.fine = 0 ∧ v.coarse = 0 ∧ v.elapsed = 0 ∧ v.windowEconomy = false ∧
          v.windowFirst = false) ∧
        v.scoresHeld = s.dirt.recent.length ∧ v.scoreSum = s.dirt.scoreSum ∧ v.e1 = s.dirt.e1 ∧ v.e2 = s.dirt.e2 ∧
        v.e3 = s.dirt.e3 ∧ v.seq = s.dirt.seq ∧ v.ringCount = s.dirt.ring.length ∧
        v.oldest = s.dirt.ring.head?.map WindowRecord.seq ∧ v.newest = s.dirt.ring.getLast?.map WindowRecord.seq) ∧
      readPayload p 8 1 s = .sensing s.dirt.params ∧ readPayload p 8 2 s = .levels s.dirt.levels ∧
      (∃ v, readPayload p 10 0 s = .bin v ∧ v.f = s.bin.f ∧ v.fFull = s.bin.fFull ∧
        v.fill = min 100 (s.bin.f * 100 / s.bin.fFull) ∧ v.evac = s.bin.evac ∧
        v.remaining = s.bin.evacAt.map (fun x => (x - s.clock) / 1000) ∧ v.lastOutcome = s.bin.lastOutcome ∧
        v.lastCause = s.bin.lastCause) ∧
      (∃ v, readPayload p 11 0 s = .charge v ∧ v.stage = s.charge.stage ∧
        v.reason =
          (if s.charge.stage = .negotiating then
            (if motorStopped s = false then some .suctionStopping
            else if s.charge.scanWait = true then some .scanWait else none)
          else if s.charge.stage = .hold then
            (if s.bin.evac ≠ .idle then some .evac else if s.charge.linkFlag = true then some .link
            else if s.charge.temp = true then some .temp else none)
          else none) ∧
        (∀ c, c ∈ v.causes ↔ s.charge.stage ≠ .undocked ∧
          (c = .evac ∧ s.bin.evac ≠ .idle ∨ c = .link ∧ s.charge.linkFlag = true ∨
            c = .temp ∧ s.charge.temp = true)) ∧
        v.curGrant = s.charge.curGrant ∧ v.voltGrant = s.charge.voltGrant ∧ v.cap = s.charge.cap ∧
        v.stageS = s.charge.stageMs / 1000 ∧ v.totalS = s.charge.totalMs / 1000 ∧ v.preS = s.charge.preMs / 1000 ∧
        v.termRun = s.charge.termRun ∧ v.holdRemaining = s.charge.holdAt.map (fun x => (x - s.clock) / 1000) ∧
        v.badFrames = s.charge.badFrames ∧ v.resyncRequired = s.charge.resyncRequired ∧
        v.linkFlag = s.charge.linkFlag ∧ v.scanWait = s.charge.scanWait ∧ v.balance = s.charge.balance ∧
        v.dockTier = s.charge.dockTier ∧ v.fCharge = s.charge.fCharge ∧
        v.icc =
          (if s.charge.stage = .undocked then (if 500 ≤ s.account.cycleCount then 3200 else 4000)
          else s.charge.icc)) ∧
      (∀ n, n ≤ 17 → readPayload p 12 n s = .fault n (entryAt s n) (carries n (entryAt s n).wide)) ∧
      (∃ l q a f, readPayload p 12 18 s = .faultSummary l q a f ∧
        (∀ n, n ∈ l ↔ ∃ e, s.faults.entries[n]? = some e ∧ e.latched = true) ∧
        (∀ n, n ∈ q ↔ ∃ e, s.faults.entries[n]? = some e ∧ e.present = true) ∧ (∀ x, x ∈ a ↔ holds s x = true) ∧
        (f = true ↔ ∃ n e, (e, n) ∈ s.faults.entries.zipIdx ∧ e.latched = true ∧ ∃ x ∈ carries n e.wide, x ≠ .warn)) ∧
      (∀ n, readPayload p 13 n s = .gate n (gateAt s n)) ∧
      readPayload p 14 0 s = .events (engineOf s p).events (engineOf s p).subscription ∧
      readPayload p 15 0 s =
        .store ⟨s.store.program.isSome, s.store.program.map Program.tag,
          s.store.program.map (fun q => (q.endAt - s.clock) / 1000), s.store.queue, s.store.locked, s.store.replaced,
          s.store.blank⟩ ∧
      (∀ k, 1 ≤ k →
        (slotAt s.store.slots k = .blank →
          readPayload p 15 k s = .slot .blank 255 (List.replicate (slotRoom k) 255)) ∧
          (∀ tag n v c, slotAt s.store.slots k = .entry tag n v c →
            readPayload p 15 k s = .slot (slotState k (.entry tag n v c)) n v) ∧
          (∀ n, slotAt s.store.slots k = .torn n →
            readPayload p 15 k s = .slot .bad (Config.tornLength n) (Config.tornValue n))) ∧
      (∃ v, readPayload p 16 0 s = .power v ∧ v.mode = s.power.mode ∧
        v.settling = (s.power.settlingUntil.map (fun x => (x - s.clock) / 1000)).getD 0 ∧
        v.rest = min 65535 ((s.power.restSince.map (fun x => (s.clock - x) / 1000)).getD 0 / 1000) ∧
        v.dwell =
          (if s.charge.stage = .undocked then (s.power.dwellSince.map (fun x => (s.clock - x) / 1000)).getD 0 / 1000
          else 0) ∧
        v.sleepDue = s.power.sleepDue.map (fun x => (x - s.clock) / 1000) ∧ v.lastWake = s.power.lastWake ∧
        v.lastSleepEnd = s.power.lastSleepEnd)

/-- R99, R100: READ of HISTORY sets the port's cursor and is answered from it; READ_CONTINUE is answered from a valid cursor and
refused with STATE from an invalid one. The answer to a read of the ring, for a ring as the law of R90 has it: two records where two
stand from the cursor on, none older than the cursor, and a cursor that stays where none is taken. That a cursor past the record
4,294,967,295 stands at 4,294,967,296 and does not wrap is DEDUCED (log entry 24). -/
def Obligations.HistoryReadsPageThroughTheRing : Prop :=
  (∀ (r : Req) (s : State), Settled s → r.fits = true →
    (∀ n, judged s (.readHistory r (.sequence n)) = true →
      exec (.readHistory r (.sequence n)) s =
        .next (answer r (readRing r.port (.at n) (arrive r s)).2 (readRing r.port (.at n) (arrive r s)).1)) ∧
      (∀ k, judged s (.readHistory r (.newest k)) = true → 63 < k →
        exec (.readHistory r (.newest k)) s = .next (answer r (refusal .range) (arrive r s))) ∧
      (∀ k, judged s (.readHistory r (.other k)) = true →
        exec (.readHistory r (.other k)) s = .next (answer r (refusal .range) (arrive r s))) ∧
      (∀ k c, judged s (.readHistory r (.newest k)) = true → k ≤ 63 →
        c = (match s.dirt.ring.getLast? with
          | none => .at s.dirt.seq
          | some x => if k ≤ x.seq then .at (x.seq - k) else .oldest) →
        exec (.readHistory r (.newest k)) s =
          .next (answer r (readRing r.port c (arrive r s)).2 (readRing r.port c (arrive r s)).1)) ∧
      (judged s (.readContinue r) = true →
        (s.dirt.cursors.get r.port = .invalid →
          exec (.readContinue r) s = .next (answer r (refusal .state) (arrive r s))) ∧
        (s.dirt.cursors.get r.port ≠ .invalid →
          exec (.readContinue r) s =
            .next (answer r (readRing r.port (s.dirt.cursors.get r.port) (arrive r s)).2
              (readRing r.port (s.dirt.cursors.get r.port) (arrive r s)).1)))) ∧
  ∀ (p : Port) (c : Cursor) (s : State), RingLaw s → c ≠ .invalid →
    ∃ records atEnd skipped cursor,
      readRing p c s =
          (s.setDirt { s.dirt with cursors := s.dirt.cursors.set p (.at cursor) },
            okReply (.history records atEnd skipped)) ∧
        records.length ≤ 2 ∧ (∀ x ∈ records, x ∈ s.dirt.ring) ∧ consecutive records = true ∧
        (records = [] → atEnd = true) ∧ (atEnd = true ↔ ∀ x ∈ s.dirt.ring, x.seq < cursor) ∧
        (∀ x, records.getLast? = some x → cursor = x.seq + 1) ∧
        (skipped = true ↔
          ∃ x, s.dirt.ring.head? = some x ∧ (c = .oldest ∨ ∃ n, c = .at n ∧ n < x.seq)) ∧
        (skipped = true → records.head? = s.dirt.ring.head?) ∧
        (∀ n x, c = .at n → x ∈ s.dirt.ring → x.seq = n → records.head? = some x) ∧
        (∀ n x, c = .at n → x ∈ records → n ≤ x.seq) ∧ (∀ n, c = .at n → records = [] → cursor = n) ∧
        (∀ x y, records.head? = some x → y ∈ s.dirt.ring → y.seq = x.seq + 1 → records = [x, y])

/-- R163, R165: a request frame that a handle transaction clocks in is held whole until its response is formed, and the one row
that processes it is the row that it spells: its tag, tier, operation, table and index are those of the frame's header, the
argument of a gate with one number is the payload's number, least significant byte first, and a STORE value is the payload's. That
row is answered with the tag, and nothing arrives at it; a row of another request changes nothing (log entry 3), and on an empty
queue the part takes the row by itself (log entries 2, 8): the model's choices. How the other payloads say their fields, and which
lengths fit, is free, and that a STORE value lies behind one length byte is DEDUCED (log entry 64). -/
def Obligations.ReceivedRequestsAreProcessedAsClocked : Prop :=
  (∀ (bytes : List Byte) (fits : Bool) (s t : State), asleep s = false → frameOk .handle bytes = true →
    framePoll bytes = false → (engineOf s .handle).inProcess = none → exec (.handleTransaction bytes fits) s = .next t →
    ∃ frame r, (engineOf t .handle).inProcess = some ⟨r.tag, false, frame⟩ ∧
      frame = bytes.take ((bytes.getD 0 0).toNat + 2) ∧ requestOf (requestRow frame) = some r ∧
      claimed t (requestRow frame) = true ∧ r.port = .handle ∧ r.received = true ∧
      r.tag = (bytes.getD 1 0).toNat / 16 ∧ r.tier = (bytes.getD 1 0).toNat % 4 ∧
      addressOf (requestRow frame) =
        some ((bytes.getD 2 0).toNat, (bytes.getD 3 0).toNat, (bytes.getD 4 0).toNat) ∧
      (∀ q i g w, requestRow frame = .writeProfile q i g w → g = (bytes.getD 5 0).toNat) ∧
      (∀ g n, invokeOf (requestRow frame) = some (g, some n) → g ≠ 6 →
        n = leNat ((bytes.drop 6).take ((bytes.getD 0 0).toNat - 5))) ∧
      (∀ q i n v, requestRow frame = .writeStore q i n v → q.fits = true →
        BitVec.ofNat 8 n :: v = (bytes.drop 6).take ((bytes.getD 0 0).toNat - 5)) ∧
      (∀ c q, requestOf c = some q → q.received = true → c ≠ requestRow frame → exec c t = .next t)) ∧
  (∀ c r s, requestOf c = some r → r.received = true → asleep s = false → claimed s c = true →
    ∃ t x, exec c s = .next t ∧ x.tag = r.tag ∧ x.ofRequest = true ∧
      (engineOf t .handle).waiting = (engineOf s .handle).waiting ++ [x] ∧ (engineOf t .handle).inProcess = none ∧
      (engineOf t .handle).delivered = (engineOf s .handle).delivered ∧
      (engineOf t .handle).sending = (engineOf s .handle).sending) ∧
  ∀ s q, s.pending = [] → asleep s = false → (engineOf s .handle).inProcess = some q →
    step s = exec (requestRow q.frame) s

/-- R172: READ_EVENTS returns the port's event set and empties it in one step; the flag of its answer is clear. -/
def Obligations.ReadEventsEmptiesTheSet : Prop :=
  ∀ (r : Req) (s : State), judged s (.readEvents r) = true → Settled s → r.fits = true →
    ∃ t, exec (.readEvents r) s = .next t ∧ OnlyChanges [.ports] (arrive r s) t ∧ OtherPortsKept r.port (arrive r s) t ∧
      (engineOf t r.port).events = [] ∧ (engineOf t r.port).subscription = (engineOf s r.port).subscription ∧
      (engineOf t r.port).waiting.getLast? =
        some ⟨r.tag, false, .ok, .eventSet (engineOf s r.port).events, true⟩ ∧
      (r.port = .handle → attnN t = false)

/-- R162, R163: a transaction clocks out the oldest waiting response, the empty one where none waits, and receives a request
frame: in process where none is, with all its bytes, else BUSY; bytes clocked beyond the part's frame read as 00h; a response that
does not fit is lost, and the handle reads a frame cut short; a failing frame is answered FRAME with its tag; a poll forms
nothing. A valid frame restarts the handle silence timer. That a request command is a handle transaction of its own unless it
processes one received before, and that State keeps the response last delivered, is the model's choice (log entries 6, 8), and so
is that a transaction with no byte clocked removes the oldest response too and is answered FRAME with tag 0 (log entry 54). How
many bytes a payload has is a free value (log entry 63). -/
def Obligations.HandleTransactionsAndPolls : Prop :=
  ∀ s : State, asleep s = false →
    (∀ (bytes : List Byte) (fits : Bool), ∃ t, exec (.handleTransaction bytes fits) s = .next t ∧
      OnlyChanges [.ports, .faults] s t ∧ OtherPortsKept .handle s t ∧
      t.faults = (if frameOk .handle bytes = true then { s.faults with handleSince := s.clock } else s.faults) ∧
      engineOf t .handle =
        { engineOf s .handle with
          delivered :=
            (match (engineOf s .handle).waiting with
            | [] => if 2 ≤ bytes.length then .empty (List.replicate bytes.length 0) else .failing (List.replicate bytes.length 0)
            | x :: _ =>
              if (fits = true ∧ frameWhole bytes = true) ∨ x.bytes.length ≤ bytes.length then
                .response x (x.bytes ++ List.replicate (bytes.length - x.bytes.length) 0)
              else .failing (x.bytes.take bytes.length))
          waiting := (engineOf s .handle).waiting.tail ++
            (if frameOk .handle bytes = false then
              [⟨frameTag bytes, !(engineOf s .handle).events.isEmpty, .frame, .empty, false⟩]
            else if framePoll bytes = false ∧ (engineOf s .handle).inProcess.isSome = true then
              [⟨frameTag bytes, !(engineOf s .handle).events.isEmpty, .busy, .empty, false⟩]
            else [])
          inProcess :=
            if frameOk .handle bytes = true ∧ framePoll bytes = false ∧ (engineOf s .handle).inProcess = none then
              some ⟨frameTag bytes, false, bytes.take ((bytes.headD 0).toNat + 2)⟩
            else (engineOf s .handle).inProcess }) ∧
      ∃ t, exec .handlePoll s = .next t ∧ OnlyChanges [.ports, .faults] s t ∧ OtherPortsKept .handle s t ∧
        t.faults = { s.faults with handleSince := s.clock } ∧
        engineOf t .handle =
          { engineOf s .handle with
            delivered :=
              (match (engineOf s .handle).waiting with
              | [] => .empty [0, 0]
              | x :: _ => .response x x.bytes)
            waiting := (engineOf s .handle).waiting.tail }

/-- R164: on the head and dock ports responses are sent in the order they were formed, and a request stays in process until its
response has been transmitted, a RESET beyond that (R173). That State keeps the response last delivered is the model's choice
(log entry 6). -/
def Obligations.ResponsesAreTransmittedInOrder : Prop :=
  ∀ (p : Port) (s : State), p ≠ .handle →
    (∀ x l, (engineOf s p).sending = none → (engineOf s p).waiting = x :: l →
      ∃ t, exec (.responseTransmitStart p) s = .next t ∧ OnlyChanges [.ports] s t ∧ OtherPortsKept p s t ∧
        engineOf t p = { engineOf s p with sending := some x, waiting := l }) ∧
      (∀ x, (engineOf s p).sending = some x →
        ∃ t, exec (.responseSent p) s = .next t ∧ OnlyChanges [.ports] s t ∧ OtherPortsKept p s t ∧
          (engineOf t p).sending = none ∧ (engineOf t p).delivered = .response x x.bytes ∧
          (engineOf t p).waiting = (engineOf s p).waiting ∧ (engineOf t p).events = (engineOf s p).events ∧
          (engineOf t p).subscription = (engineOf s p).subscription ∧
          (x.ofRequest = true → (∀ q, (engineOf s p).inProcess = some q → q.isReset = false) →
            (engineOf t p).inProcess = none) ∧
          (x.ofRequest = false → (engineOf t p).inProcess = (engineOf s p).inProcess) ∧
          (∀ q, (engineOf s p).inProcess = some q → q.isReset = true → (engineOf t p).inProcess = some q))

/-- R162, R135, R81: a failing frame gets no response on the head and dock ports and is answered FRAME on the handle port; on
the dock port it counts as a bad frame while docked. The third in a row sets resync-required, hands DOCK_LINK with the count,
and holds a charging stage for LINK with both grants 0; in HOLD it sets the link flag too, in NEGOTIATING and FAULTED not. Further
ones leave the count at 3 and form nothing. That a request command is a handle transaction of its own unless one received it before,
and that State keeps the response last delivered, is the model's choice (log entries 6, 8), and so is that bytes after the check
byte, or no byte at all, make a frame of these ports fail (log entries 54, 60). How many bytes a payload has is a free value (log
entry 63). -/
def Obligations.FailingFrames : Prop :=
  ∀ (bytes : List Byte) (s : State), asleep s = false → Settled s →
    (frameOk .handle bytes = false →
      ∃ t, exec (.frameFail .handle bytes) s = .next t ∧ OnlyChanges [.ports] s t ∧ OtherPortsKept .handle s t ∧
        (engineOf t .handle).inProcess = (engineOf s .handle).inProcess ∧
        ((engineOf s .handle).waiting = [] →
          (engineOf t .handle).delivered =
            (if 2 ≤ bytes.length then .empty (List.replicate bytes.length 0) else .failing (List.replicate bytes.length 0))) ∧
        (∀ x l, (engineOf s .handle).waiting = x :: l →
          (engineOf t .handle).delivered =
            (if x.bytes.length ≤ bytes.length then
              .response x (x.bytes ++ List.replicate (bytes.length - x.bytes.length) 0)
            else .failing (x.bytes.take bytes.length))) ∧
        (engineOf t .handle).waiting = (engineOf s .handle).waiting.tail ++
          [⟨frameTag bytes, !(engineOf s .handle).events.isEmpty, .frame, .empty, false⟩]) ∧
      (frameOk .head bytes = false →
        exec (.frameFail .head bytes) s = .next s ∧ exec (.frameByteTimeout .head bytes) s = .next s) ∧
      (frameOk .dock bytes = false → docked s = true → s.charge.badFrames < 2 →
        exec (.frameFail .dock bytes) s =
            .next (s.setCharge { s.charge with badFrames := s.charge.badFrames + 1 }) ∧
          exec (.frameByteTimeout .dock bytes) s =
            .next (s.setCharge { s.charge with badFrames := s.charge.badFrames + 1 })) ∧
      (frameOk .dock bytes = false → docked s = false →
        exec (.frameFail .dock bytes) s = .next s ∧ exec (.frameByteTimeout .dock bytes) s = .next s) ∧
      (frameOk .dock bytes = false → s.charge.badFrames = 2 → s.charge.stage.charging = true →
        s.faults.entries.length = 18 → (entryAt s 11).enabled = true →
        ∀ c, c = .frameFail .dock bytes ∨ c = .frameByteTimeout .dock bytes →
        ∃ t, exec c s = .next t ∧ t.charge.badFrames = 3 ∧ t.charge.resyncRequired = true ∧
          t.charge.linkFlag = true ∧ t.charge.stage = .hold ∧ t.charge.curGrant = 0 ∧ t.charge.voltGrant = 0 ∧
          t.charge.balance = [] ∧ t.charge.totalMs = s.charge.totalMs ∧ t.charge.preMs = s.charge.preMs ∧
          (entryAt t 11).latched = true ∧ (entryAt t 11).present = false ∧ (entryAt t 11).lastValue = some 3 ∧
          (entryAt t 11).occurrences = min 255 ((entryAt s 11).occurrences + 1) ∧
          (∀ n, n ≠ 11 → entryAt t n = entryAt s n) ∧ OnlyChanges [.charge, .faults, .ports] s t) ∧
      (frameOk .dock bytes = false → ∀ c, c = .frameFail .dock bytes ∨ c = .frameByteTimeout .dock bytes →
        (3 ≤ s.charge.badFrames → exec c s = .next s) ∧
          (s.charge.badFrames = 2 → s.faults.entries.length = 18 → (entryAt s 11).enabled = true →
            (s.charge.stage = .hold ∨ s.charge.stage = .negotiating ∨ s.charge.stage = .faulted) →
            ∃ t, exec c s = .next t ∧ OnlyChanges [.charge, .faults, .ports] s t ∧
              t.charge = { s.charge with
                badFrames := 3, resyncRequired := true
                linkFlag := s.charge.linkFlag || s.charge.stage == .hold } ∧
              entryAt t 11 = { entryAt s 11 with
                latched := true, present := false, lastValue := some 3
                latchSeq := if (entryAt s 11).latched = true then (entryAt s 11).latchSeq else some s.scan.seq
                occurrences := min 255 ((entryAt s 11).occurrences + 1) } ∧
              (∀ n, n ≠ 11 → entryAt t n = entryAt s n) ∧
              ((entryAt s 11).latched = false → Raised .faultLatched s t)))

/-- R170, R171: a taken WRITE of EVENTS replaces the subscription and drops the kinds that leave it; a taken WRITE of GATE sets
the carried fields and is answered with the whole entry; each case that R170 refuses is answered RANGE. `range` is the built-in
range of the gate's bounded argument, absent for a gate without one (R168's gate table). That a WRITE of GATE which carries no field is
answered OK and changes nothing is the model's choice (log entry 61). -/
def Obligations.EventAndGateWritesAreTaken : Prop :=
  ∀ (r : Req) (s : State), Settled s → r.fits = true →
    (∀ kinds : List EventKind, judged s (.writeEvents r (some kinds)) = true →
      ∃ t, exec (.writeEvents r (some kinds)) s = .next t ∧ OnlyChanges [.ports] (arrive r s) t ∧
        OtherPortsKept r.port (arrive r s) t ∧ (∀ k, k ∈ (engineOf t r.port).subscription ↔ k ∈ kinds) ∧
        (engineOf t r.port).events = (engineOf s r.port).events.filter (fun k => kinds.contains k) ∧
        AnsweredWith r (okReply .empty) t) ∧
      (judged s (.writeEvents r none) = true →
        exec (.writeEvents r none) s = .next (answer r (refusal .range) (arrive r s))) ∧
      ∀ (n : Nat) (w : GateWrite) (g : Gate), judged s (.writeGate r n w) = true → n ≤ 15 → effTier s r = 0 → g = gateAt s n →
        (10 ≤ n ∨ w.target = true ∨ 3 < w.tierLimit.getD 0 →
          exec (.writeGate r n w) s = .next (answer r (refusal .range) (arrive r s))) ∧
          (∀ range : Option (Nat × Nat),
            ([some (0, 7), some (0, 1), some (1, 20), none, some (0, 255), some (0, 3), some (0, 8000), none,
              some (0, 2), none] : List (Option (Nat × Nat)))[n]? = some range →
            (range = none → w.lo.isSome = true ∨ w.hi.isSome = true ∨ w.policy.isSome = true →
              exec (.writeGate r n w) s = .next (answer r (refusal .range) (arrive r s))) ∧
              (∀ b lo hi, range = some (lo, hi) → g.bound = some b →
                w.hi.getD b.hi < w.lo.getD b.lo ∨ w.lo.getD b.lo < lo ∨ hi < w.hi.getD b.hi →
                exec (.writeGate r n w) s = .next (answer r (refusal .range) (arrive r s))) ∧
              (∀ g', w.target = false → w.tierLimit.getD g.tierLimit ≤ 3 →
                (range = none ∧ g.bound = none ∧ w.lo = none ∧ w.hi = none ∧ w.policy = none ∨
                  ∃ b lo hi, range = some (lo, hi) ∧ g.bound = some b ∧ w.lo.getD b.lo ≤ w.hi.getD b.hi ∧
                    lo ≤ w.lo.getD b.lo ∧ w.hi.getD b.hi ≤ hi) →
                g' = ⟨w.present.getD g.present, w.tierLimit.getD g.tierLimit,
                  g.bound.map fun b => ⟨w.lo.getD b.lo, w.hi.getD b.hi, w.policy.getD b.policy⟩, g.target⟩ →
                exec (.writeGate r n w) s =
                  .next (answer r (okReply (.gate n g'))
                    ((arrive r s).setPorts { (arrive r s).ports with gates := (arrive r s).ports.gates.set n g' }))))

/-! ### Resets (R173, R187 and the reset rules of every chapter) -/

/-- The power-on reset: every block at its power-on values, the rail read, and the values of the store loaded as `LoadedFrom` spells it
out (R2, R20, R22, R27, R43, R52, R65, R69, R84, R86, R92, R103, R110, R118, R119, R160, R174, R175, R176, R181, R187). That the range
of V_floor ends at V_knee − 50 (log entry 17) and that a stored profile whose flag byte is neither 0 nor 1 fails its check (log entry
14) are DEDUCED; that a count byte that does not match is the owner's check and not the slot's (log entry 58), the tier limit 3 of
gates 10 to 15 in `builtinGates` (log entry 9) and the numbering of torn slots in `slotsAtReset` (log entry 5) are the model's
choices. -/
def Obligations.PowerOnResetValues : Prop :=
  ∀ (rail : RailReading) (strap : Bool) (s : State), ∃ t l,
    exec (.powerOnReset rail strap) s = .next t ∧ LoadedFrom true (slotsAtReset s) l ∧
      t.clock = s.clock ∧ t.pending = s.pending ∧
      t.scan.cal = l.cal ∧ t.scan.seq = 0 ∧ t.scan.latest = none ∧ t.scan.inProgress = some s.clock ∧
      t.scan.nextStart = some (s.clock + 10000) ∧ t.scan.suspectRun = allChannels 0 ∧ t.scan.sensing = allChannels false ∧
      t.account = ⟨0, 0, 0, l.qFull, true, false, 0, 0, 0, 0, l.cycles⟩ ∧ t.tables = l.tables ∧
      t.budget = ⟨clearBudget, l.pBase, l.vKnee, l.vFloor⟩ ∧
      t.suction.state = (if rail = .high then .inhibited else .off) ∧ t.suction.demand = none ∧
      t.suction.lastEnd = .none ∧ t.suction.activeProfile = 1 ∧ t.suction.pSet = 0 ∧ t.suction.speed = 0 ∧
      t.suction.stop = false ∧ t.suction.holdTime = l.holdTime ∧ t.suction.profiles = l.profiles ∧
      t.head = clearHead s.clock ∧
      t.dirt.level = 0 ∧ t.dirt.ring = [] ∧ t.dirt.cursors = ⟨.invalid, .invalid, .invalid⟩ ∧ t.dirt.seq = 0 ∧
      t.dirt.economy = false ∧ t.dirt.window = none ∧ t.dirt.params = l.sensing ∧ t.dirt.levels = l.levels ∧
      t.bin = ⟨l.f, l.fFull, .idle, none, .none, .none⟩ ∧
      t.charge.stage = (if rail = .high then .negotiating else .undocked) ∧ t.charge.curGrant = 0 ∧
      t.charge.voltGrant = 0 ∧ t.charge.cap = none ∧ t.charge.totalMs = 0 ∧ t.charge.preMs = 0 ∧
      t.charge.dockTier = (if rail = .high ∧ strap = true then 0 else 1) ∧
      t.charge.icc = (if 500 ≤ l.cycles then 3200 else 4000) ∧
      t.faults.lastSeq = 0 ∧ t.faults.entries.length = 18 ∧ (∀ n, n ≠ 17 → entryAt t n = clearEntry) ∧
      IntegrityEntry l.integrity 0 (entryAt t 17) ∧
      t.ports.gates = builtinGates ∧
      (∀ p, (engineOf t p).inProcess = none ∧ (engineOf t p).waiting = [] ∧ (engineOf t p).sending = none ∧
        (engineOf t p).subscription = defaultSubscription p ∧
        ∀ k, k ∈ (engineOf t p).events ↔ k = .faultLatched ∧ l.integrity ≠ [] ∧ .faultLatched ∈ defaultSubscription p) ∧
      t.store.slots = slotsAtReset s ∧ CountsOf (slotsAtReset s) t.store.replaced t.store.blank ∧
      t.store.program = none ∧ t.store.queue = [] ∧ t.store.locked = true ∧
      t.power.mode = .active ∧ t.power.settlingUntil = some (s.clock + 100000) ∧ t.power.sleepDue = none ∧
      t.power.lastWake = .powerOn ∧ t.power.lastSleepEnd = .none

/-- A taken RESET is answered OK and stays in process; the service reset, once its response's transmission has ended: what is kept
and what is set (R1, R5, R15, R23, R44, R61, R69, R84, R103, R107, R110, R118, R119, R160, R173, R181, R187). That rows may stand
between the end of the transmission and the service reset is DEDUCED (log entry 40), that the scan sequences of the account's last
update and of the fault supervisor's last scan are kept is the model's choice (log entry 46), and that the score sum and thresholds
return to 0 is DEDUCED (log entry 16). The values of the store are loaded as `LoadedFrom` spells it out; the range of V_floor and
the flag byte of a profile (log entries 17, 14, DEDUCED), the count bytes, the tier limit of gates 10 to 15 and the numbering of
torn slots (log entries 58, 9, 5, the model's choices) are as at the power-on reset. A reload of F_full that moves the fill decile
saves F, and one that carries the fill across a mark raises BIN_NEAR or BIN_FULL (R106): into the event sets already emptied, and
by the default subscriptions, by the model's choice (log entry 65). -/
def Obligations.ServiceResetValues : Prop :=
  (∀ (r : Req) (s : State), judged s (.reset r) = true → Settled s → effTier s r = 0 → r.fits = true →
    exec (.reset r) s = .next (answer r ⟨.ok, .empty, true⟩ (arrive r s))) ∧
  ∀ (rail : RailReading) (strap : Bool) (s : State), resetReady s = true → ∃ t l,
    exec (.serviceReset rail strap) s = .next t ∧ LoadedFrom false (slotsAtReset s) l ∧
      t.clock = s.clock ∧ t.pending = s.pending ∧
      t.scan.cal = l.cal ∧ t.scan.seq = s.scan.seq ∧ t.scan.latest = s.scan.latest ∧
      t.scan.lastDone = s.scan.lastDone ∧ t.scan.inProgress = some s.clock ∧
      t.scan.suspectRun = allChannels 0 ∧ t.scan.sensing = allChannels false ∧
      t.account = { s.account with learnActive := false, learnTotal := 0, chargeCancel := 0, emptyRun := 0 } ∧
      t.tables = l.tables ∧ t.budget = ⟨clearBudget, l.pBase, l.vKnee, l.vFloor⟩ ∧
      t.suction.state = (if rail = .high then .inhibited else .off) ∧ t.suction.demand = none ∧
      t.suction.lastEnd = .none ∧ t.suction.activeProfile = 1 ∧ t.suction.pSet = 0 ∧
      t.suction.speed = s.suction.speed ∧ t.suction.stop = false ∧ t.suction.holdTime = l.holdTime ∧
      t.suction.profiles = l.profiles ∧ t.dirt.params = l.sensing ∧ t.dirt.levels = l.levels ∧
      t.head = clearHead s.clock ∧ t.dirt.level = 0 ∧ t.dirt.ring = [] ∧ t.dirt.seq = 0 ∧ t.dirt.window = none ∧
      t.dirt.scoreSum = 0 ∧ t.dirt.e1 = 0 ∧ t.dirt.e2 = 0 ∧ t.dirt.e3 = 0 ∧
      t.bin = ⟨s.bin.f, l.fFull, .idle, none, .none, .none⟩ ∧
      t.charge.stage = (if rail = .high then .negotiating else .undocked) ∧ t.charge.curGrant = 0 ∧
      t.charge.totalMs = 0 ∧ t.charge.preMs = 0 ∧
      t.charge.dockTier = (if rail = .high ∧ strap = true then 0 else 1) ∧
      t.faults.lastSeq = s.faults.lastSeq ∧ t.faults.entries.length = 18 ∧ (∀ n, n ≠ 17 → entryAt t n = clearEntry) ∧
      IntegrityEntry l.integrity s.scan.seq (entryAt t 17) ∧
      t.ports.gates = builtinGates ∧
      (∀ p, (engineOf t p).inProcess = none ∧ (engineOf t p).waiting = [] ∧ (engineOf t p).sending = none ∧
        (engineOf t p).subscription = defaultSubscription p ∧
        ∀ k, k ∈ (engineOf t p).events ↔ k ∈ defaultSubscription p ∧
          (k = .faultLatched ∧ l.integrity ≠ [] ∨ k = .binNear ∧ fill s < 90 ∧ 90 ≤ fill t ∨
            k = .binFull ∧ fill s < 100 ∧ fill t = 100)) ∧
      t.store.slots = slotsAtReset s ∧ CountsOf (slotsAtReset s) t.store.replaced t.store.blank ∧
      t.store.queue = [] ∧ t.store.locked = true ∧
      t.store.program =
        (if fill s / 10 = fill t / 10 then none else some ⟨40, leBytes 2 s.bin.f, s.clock + 30000⟩) ∧
      t.charge.icc = (if 500 ≤ s.account.cycleCount then 3200 else 4000) ∧
      t.power.mode = .active ∧ t.power.settlingUntil = some (s.clock + 100000) ∧ t.power.sleepDue = none ∧
      t.power.lastWake = .serviceReset ∧ t.power.lastSleepEnd = .none

/-! ### Record writes (01, 02, 03, 05, 06, 08, 10) -/

/-- R12, R14, R17: a taken WRITE of ACCOUNT sets what it carries and saves it; a Q_full outside 1000..6000 is answered RANGE. A
taken Q_full cancels a learn run, and counts cycles against the new Q_full. Of a WRITE that carries both fields the written cycle
count stands, and one that carries neither is answered OK and changes nothing: the model's choices (log entries 43, 44). That the
charge-cancel accumulator stands where no run was active is DEDUCED (log entry 41). -/
def Obligations.AccountWritesAreTaken : Prop :=
  ∀ (r : Req) (q n : Option Nat) (s : State), judged s (.writeAccount r q n) = true → Settled s → effTier s r = 0 → r.fits = true →
    ((∀ v, q = some v → 1000 ≤ v ∧ v ≤ 6000) →
      ∃ t, exec (.writeAccount r q n) s = .next t ∧ OnlyChanges [.account, .store, .ports] (arrive r s) t ∧
        AnsweredWith r (okReply .empty) t ∧
        (∀ v, q = some v → t.account.qFull = v ∧ t.account.qRem = min s.account.qRem v ∧
          t.account.learnActive = false ∧ t.account.learnTotal = 0 ∧ t.account.estimated = true ∧
          t.account.residue = s.account.residue ∧ t.account.cycleAcc = s.account.cycleAcc % v ∧ SaveUnderway 38 t ∧
          t.account.chargeCancel = (if s.account.learnActive = true then 0 else s.account.chargeCancel) ∧
          t.account.emptyRun = s.account.emptyRun ∧ t.account.lastSeq = s.account.lastSeq ∧
          (n = none → s.account.cycleCount ≤ 65535 →
            t.account.cycleCount = min 65535 (s.account.cycleCount + s.account.cycleAcc / v))) ∧
        (∀ k, n = some k → k ≤ 65535 → t.account.cycleCount = k ∧ SaveUnderway 39 t) ∧
        (q = none → ∀ k, n = some k → k ≤ 65535 → t.account = { s.account with cycleCount := k })) ∧
      (s.account.cycleCount ≤ 65535 → q = none → n = none →
        exec (.writeAccount r q n) s = .next (answer r (okReply .empty) (arrive r s))) ∧
      (∀ v, q = some v → ¬(1000 ≤ v ∧ v ≤ 6000) →
        exec (.writeAccount r q n) s = .next (answer r (refusal .range) (arrive r s)))

/-- R19, R125, R131, R177: a taken WRITE of TABLES replaces its list and starts its program. Of the charge derating table while
docked it makes the grant computation of a request: TEMP joins the hold causes at a derating of 0 and leaves them at another, with
the stage and the grants that follow. A list that fails a check is answered RANGE, and a busy store BUSY. That NEGOTIATING is left
before TEMP is judged is the model's order (log entries 26, 52). -/
def Obligations.TableWritesAreTaken : Prop :=
  ∀ (r : Req) (i : Nat) (l : List Point) (s : State), judged s (.writeTables r i l) = true → Settled s → i ≤ 2 →
    effTier s r ≤ (if i = 0 then 0 else 1) → r.fits = true →
    (¬TableGood i l → exec (.writeTables r i l) s = .next (answer r (refusal .range) (arrive r s))) ∧
      (TableGood i l → storeBusy s = true →
        exec (.writeTables r i l) s = .next (answer r (refusal .busy) (arrive r s))) ∧
      (TableGood i l → storeBusy s = false →
        ∃ t, exec (.writeTables r i l) s = .next t ∧ AnsweredWith r (okReply .empty) t ∧
          t.tables.ocv = (if i = 0 then l else s.tables.ocv) ∧ t.tables.dis = (if i = 1 then l else s.tables.dis) ∧
          t.tables.chg = (if i = 2 then l else s.tables.chg) ∧
          t.store.program = some ⟨23 + i, pointsBytes l, s.clock + 30000⟩ ∧ t.store.queue = s.store.queue ∧
          t.store.slots = s.store.slots ∧
          (i ≠ 2 ∨ docked s = false → OnlyChanges [.tables, .store, .ports] (arrive r s) t) ∧
          (i = 2 → docked s = true → OnlyChanges [.tables, .store, .ports, .charge] (arrive r s) t ∧
            ∀ m f choice, s.scan.latest = some m → f = lookup l m.tHot →
              choice = (if evacuating s = true ∨ s.charge.linkFlag = true ∨ f = 0 then ChargeStage.hold
                else if m.vmin < 3000 then .precharge else if 4180 ≤ m.vmax then .cv else .cc) →
              t.charge.fCharge = f ∧ t.charge.icc = (if 500 ≤ s.account.cycleCount then 3200 else 4000) ∧
                t.charge.cap = s.charge.cap ∧ t.charge.holdAt = s.charge.holdAt ∧
                t.charge.linkFlag = s.charge.linkFlag ∧ t.charge.scanWait = s.charge.scanWait ∧
                t.charge.totalMs = s.charge.totalMs ∧ t.charge.preMs = s.charge.preMs ∧
                (s.charge.stage = .negotiating →
                  t.charge.stage =
                    (if motorStopped s = true ∧ s.charge.scanWait = false ∧ s.charge.cap.isSome = true then choice
                    else .negotiating)) ∧
                (s.charge.stage.charging = true → t.charge.stage = (if f = 0 then .hold else s.charge.stage)) ∧
                (s.charge.stage = .hold →
                  t.charge.stage =
                    (if choice = .hold then .hold
                    else if motorStopped s = true ∧ s.charge.scanWait = false ∧ s.charge.cap.isSome = true then choice
                    else .negotiating)) ∧
                (s.charge.stage = .faulted → t.charge.stage = .faulted) ∧
                (t.charge.stage = .hold → t.charge.temp = decide (f = 0)) ∧
                (t.charge.stage ≠ s.charge.stage → t.charge.stageMs = 0 ∧ Raised .chargeStage s t ∧
                  (t.charge.stage ≠ .cv → t.charge.stage ≠ .topped → t.charge.balance = [])) ∧
                (s.charge.cap = none → t.charge.curGrant = 0 ∧ t.charge.voltGrant = 0) ∧
                (∀ cap, s.charge.cap = some cap →
                  t.charge.curGrant =
                      (if t.charge.stage = .precharge then min cap.current 400
                      else if t.charge.stage = .cc ∨ t.charge.stage = .cv then
                        min cap.current (t.charge.icc * t.charge.fCharge / 100)
                      else if t.charge.stage = .topped then min cap.current 300 else 0) ∧
                    t.charge.voltGrant =
                      (if t.charge.stage.charging = true then min cap.voltage 29400 else 0))))

/-- R28, R52, R86, R92, R177: the parameter writes. Values out of range, taken with the standing ones, are answered RANGE, a locked
segment STATE, a busy store BUSY; else what is carried takes its place, what is not stays, and each changed value is saved. That
only a value that differs is saved is DEDUCED (log entry 19), and that the STATE answer is empty too (log entry 36); that a WRITE which
carries no field is judged and answered as one that carries the standing values is the model's choice (log entry 61). -/
def Obligations.ParameterWritesAreTaken : Prop :=
  ∀ (r : Req) (s : State), Settled s → r.fits = true →
    (∀ (w : BudgetWrite) (b k f : Nat) (ok : Bool), judged s (.writeBudgetParams r w) = true → effTier s r = 0 →
      b = w.pBase.getD s.budget.pBase →
      k = w.vKnee.getD s.budget.vKnee → f = w.vFloor.getD s.budget.vFloor →
      (ok = true ↔ 100 ≤ b ∧ b ≤ 600 ∧ 3000 ≤ k ∧ k ≤ 4000 ∧ 2800 ≤ f ∧ f + 50 ≤ k ∧ w.pReserve = none) →
      (ok = false → exec (.writeBudgetParams r w) s = .next (answer r (refusal .range) (arrive r s))) ∧
        (ok = true → s.store.locked = true →
          exec (.writeBudgetParams r w) s = .next (answer r (refusal .state) (arrive r s))) ∧
        (ok = true → s.store.locked = false → storeBusy s = true →
          exec (.writeBudgetParams r w) s = .next (answer r (refusal .busy) (arrive r s))) ∧
        (ok = true → s.store.locked = false → storeBusy s = false →
          ∃ t, exec (.writeBudgetParams r w) s = .next t ∧ OnlyChanges [.budget, .store, .ports] (arrive r s) t ∧
            AnsweredWith r (okReply .empty) t ∧ t.budget = ⟨s.budget.record, b, k, f⟩ ∧
            (b ≠ s.budget.pBase → SaveUnderway 15 t) ∧ (k ≠ s.budget.vKnee → SaveUnderway 16 t) ∧
            (f ≠ s.budget.vFloor → SaveUnderway 17 t))) ∧
      (∀ (w : SensingWrite) (p q : SensingParams) (ok : Bool), judged s (.writeDirtParams r w) = true → effTier s r = 0 →
        p = s.dirt.params →
        q = ⟨w.fineTh.getD p.fineTh, w.coarseTh.getD p.coarseTh, w.length.getD p.length, w.wFine.getD p.wFine,
          w.wCoarse.getD p.wCoarse⟩ →
        (ok = true ↔ 10 ≤ q.fineTh ∧ q.fineTh ≤ 3000 ∧ 10 ≤ q.coarseTh ∧ q.coarseTh ≤ 3000 ∧ q.fineTh < q.coarseTh ∧
          20 ≤ q.length ∧ q.length ≤ 200 ∧ q.wFine ≤ 15 ∧ q.wCoarse ≤ 63) →
        (ok = false → exec (.writeDirtParams r w) s = .next (answer r (refusal .range) (arrive r s))) ∧
          (ok = true → s.store.locked = true →
            exec (.writeDirtParams r w) s = .next (answer r (refusal .state) (arrive r s))) ∧
          (ok = true → s.store.locked = false → storeBusy s = true →
            exec (.writeDirtParams r w) s = .next (answer r (refusal .busy) (arrive r s))) ∧
          (ok = true → s.store.locked = false → storeBusy s = false →
            ∃ t, exec (.writeDirtParams r w) s = .next t ∧ OnlyChanges [.dirt, .store, .ports] (arrive r s) t ∧
              AnsweredWith r (okReply .empty) t ∧ t.dirt = { s.dirt with params := q } ∧
              (q.fineTh ≠ p.fineTh → SaveUnderway 18 t) ∧ (q.coarseTh ≠ p.coarseTh → SaveUnderway 19 t) ∧
              (q.length ≠ p.length → SaveUnderway 20 t) ∧ (q.wFine ≠ p.wFine → SaveUnderway 21 t) ∧
              (q.wCoarse ≠ p.wCoarse → SaveUnderway 22 t))) ∧
      (∀ (w : LevelWrite) (p q : LevelParams) (ok : Bool), judged s (.writeLevelParams r w) = true → effTier s r ≤ 1 →
        p = s.dirt.levels →
        q = ⟨w.l1.getD p.l1, w.l2.getD p.l2, w.l3.getD p.l3, w.hard.getD p.hard, w.lowPile.getD p.lowPile,
          w.highPile.getD p.highPile, w.unknown.getD p.unknown⟩ →
        (ok = true ↔ 1 ≤ q.l1 ∧ q.l1 < q.l2 ∧ q.l2 < q.l3 ∧ q.l3 ≤ 1000000 ∧
          ∀ x ∈ [q.hard, q.lowPile, q.highPile, q.unknown], 50 ≤ x ∧ x ≤ 300) →
        (ok = false → exec (.writeLevelParams r w) s = .next (answer r (refusal .range) (arrive r s))) ∧
          (ok = true → storeBusy s = true →
            exec (.writeLevelParams r w) s = .next (answer r (refusal .busy) (arrive r s))) ∧
          (ok = true → storeBusy s = false →
            ∃ t, exec (.writeLevelParams r w) s = .next t ∧ OnlyChanges [.dirt, .store, .ports] (arrive r s) t ∧
              AnsweredWith r (okReply .empty) t ∧ t.dirt = { s.dirt with levels := q } ∧
              (q.l1 ≠ p.l1 ∨ q.l2 ≠ p.l2 ∨ q.l3 ≠ p.l3 → SaveUnderway 34 t) ∧
              (q.hard ≠ p.hard ∨ q.lowPile ≠ p.lowPile ∨ q.highPile ≠ p.highPile ∨ q.unknown ≠ p.unknown →
                SaveUnderway 35 t))) ∧
      (∀ h, judged s (.writeSuctionParams r h) = true → effTier s r ≤ 1 →
        (h < 50 ∨ 1000 < h → exec (.writeSuctionParams r h) s = .next (answer r (refusal .range) (arrive r s))) ∧
          (50 ≤ h → h ≤ 1000 → storeBusy s = true →
            exec (.writeSuctionParams r h) s = .next (answer r (refusal .busy) (arrive r s))) ∧
          (50 ≤ h → h ≤ 1000 → storeBusy s = false →
            ∃ t, exec (.writeSuctionParams r h) s = .next t ∧ OnlyChanges [.suction, .store, .ports] (arrive r s) t ∧
              AnsweredWith r (okReply .empty) t ∧ t.suction = { s.suction with holdTime := h } ∧
              t.store = { s.store with program := some ⟨37, leBytes 2 h, s.clock + 30000⟩ }))

/-- R66: a WRITE of PROFILE: STALE for another generation than the standing one, RANGE for contents that fail, STATE for marking the
active profile absent outside OFF; else taken, the generation rising by 1 and wrapping from 255 to 0, an entry marked absent keeping
its other fields; the entry is saved. -/
def Obligations.ProfileWritesAreTaken : Prop :=
  ∀ (r : Req) (i g : Nat) (w : ProfileWrite) (s : State), judged s (.writeProfile r i g w) = true → Settled s →
    i ≤ 7 → effTier s r ≤ (if i ≤ 3 then 1 else 2) → r.fits = true → s.suction.profiles.length = 8 →
    (g ≠ (profileAt s i).generation →
      exec (.writeProfile r i g w) s =
        .next (answer r ⟨.stale, .generation (profileAt s i).generation, false⟩ (arrive r s))) ∧
      (g = (profileAt s i).generation → ∀ c, w = .present c →
        (c.sMin < 10 ∨ 600 < c.sMin ∨ c.base < c.sMin ∨ c.top < c.base ∨ 600 < c.top ∨ 600 < c.step ∨ c.ramp < 1 ∨
          100 < c.ramp ∨ 4 < c.bias.length ∨ ∃ b ∈ c.bias, b < -300 ∨ 300 < b) →
        exec (.writeProfile r i g w) s = .next (answer r (refusal .range) (arrive r s))) ∧
      (g = (profileAt s i).generation → w = .absent → i = s.suction.activeProfile → s.suction.state ≠ .off →
        exec (.writeProfile r i g w) s = .next (answer r (refusal .state) (arrive r s))) ∧
      (g = (profileAt s i).generation →
        (w = .absent ∧ (i ≠ s.suction.activeProfile ∨ s.suction.state = .off)) ∨
          (∃ c, w = .present c ∧ ContentsGood c) →
        ∃ t, exec (.writeProfile r i g w) s = .next t ∧ OnlyChanges [.suction, .store, .ports] (arrive r s) t ∧
          AnsweredWith r (okReply (.generation ((g + 1) % 256))) t ∧
          (profileAt t i).generation = (g + 1) % 256 ∧ ((profileAt t i).present = true ↔ w ≠ .absent) ∧
          (∀ c, w = .present c → (profileAt t i).body = c) ∧
          (w = .absent → (profileAt t i).body = (profileAt s i).body) ∧
          (∀ j, j ≠ i → profileAt t j = profileAt s j) ∧
          { t.suction with profiles := s.suction.profiles } = s.suction ∧ SaveUnderway (26 + i) t)

/-- R107, R108, R109: BIN_RESET empties the count outside an exchange and always saves it; a taken WRITE of BIN sets F, F_full or
both, on a busy store too where it carries F alone (its save joins the queue); one that carries F_full is answered BUSY there (R177).
The fill follows R105, with BIN_NEAR and BIN_FULL (R106). That a WRITE with neither field is answered OK and changes nothing is the
model's choice (log entry 51); that F above its field is taken as 65,535 is DEDUCED (log entry 29). The premise on F is the range of
R110, kept by every step (StoreBinAndPortLawsAreKept). -/
def Obligations.BinWritesAndResets : Prop :=
  ∀ (r : Req) (s : State), Settled s → r.fits = true → s.bin.f ≤ 65535 →
    (judged s (.binReset r) = true → gateOpen s 9 r 0 = true →
      (evacuating s = true → exec (.binReset r) s = .next (answer r ⟨.state, .cause .evacuation, false⟩ (arrive r s))) ∧
        (evacuating s = false →
          ∃ t, exec (.binReset r) s = .next t ∧ OnlyChanges [.bin, .store, .ports] (arrive r s) t ∧
            AnsweredWith r (okReply (.fill 0 0)) t ∧ t.bin = { s.bin with f := 0 } ∧ SaveUnderway 40 t)) ∧
      (effTier s r = 0 → ∀ f full : Option Nat, judged s (.writeBin r f full) = true → (∀ v, full = some v → 1000 ≤ v ∧ v ≤ 65535) →
        full = none ∨ storeBusy s = false →
        ∃ t, exec (.writeBin r f full) s = .next t ∧ OnlyChanges [.bin, .store, .ports] (arrive r s) t ∧
          AnsweredWith r (okReply .empty) t ∧
          t.bin = { s.bin with f := min 65535 (f.getD s.bin.f), fFull := full.getD s.bin.fFull } ∧
          (f.isSome = true → SaveUnderway 40 t) ∧ (full.isSome = true → SaveUnderway 36 t) ∧
          (f.isSome = true → storeBusy s = true → 40 ∈ t.store.queue ∧ t.store.program = s.store.program) ∧
          (f = none → full = none → t.bin = s.bin ∧ t.store = s.store) ∧
          (fill s < 90 → 90 ≤ fill t → Raised .binNear s t) ∧ (fill s < 100 → fill t = 100 → Raised .binFull s t)) ∧
      (effTier s r = 0 → ∀ f full, judged s (.writeBin r f (some full)) = true → 1000 ≤ full → full ≤ 65535 → storeBusy s = true →
        exec (.writeBin r f (some full)) s = .next (answer r (refusal .busy) (arrive r s))) ∧
      (effTier s r = 0 → ∀ f full, judged s (.writeBin r f (some full)) = true → (full < 1000 ∨ 65535 < full) →
        exec (.writeBin r f (some full)) s = .next (answer r (refusal .range) (arrive r s)))

/-- R57, R82, R138, R154, R156: CLEAR retires an entry that is latched and not present, keeping its history; WRITE of FAULT disables
only channels 8, 9 and 12. What an action held is released at that step: suction leaves TRIPPED, the session leaves FAULTED, the
rail comes back. That a WRITE of FAULT with no enabled flag is answered RANGE is DEDUCED (log entry 31). -/
def Obligations.FaultEntriesAreClearedAndDisabled : Prop :=
  ∀ (r : Req) (n : Nat) (s : State), Settled s → r.fits = true → n ≤ 17 → s.faults.entries.length = 18 →
    (judged s (.clear r n) = true → effTier s r ≤ clearTier n →
      ((entryAt s n).latched = false →
        exec (.clear r n) s =
          .next (answer r (okReply (.fault n (entryAt s n) (carries n (entryAt s n).wide))) (arrive r s))) ∧
        ((entryAt s n).latched = true → (entryAt s n).present = true →
          exec (.clear r n) s =
            .next (answer r ⟨.stillPresent, .fault n (entryAt s n) (carries n (entryAt s n).wide), false⟩
              (arrive r s))) ∧
        ((entryAt s n).latched = true → (entryAt s n).present = false →
          ∃ t, exec (.clear r n) s = .next t ∧
            OnlyChanges [.faults, .suction, .charge, .head, .power, .ports] (arrive r s) t ∧
            entryAt t n = { entryAt s n with latched := false, wide := false } ∧
            (∀ k, k ≠ n → entryAt t k = entryAt s k) ∧ Raised .faultRetired s t ∧
            AnsweredWith r (okReply (.fault n (entryAt t n) (carries n (entryAt t n).wide))) t ∧
            (holds t .tripSuction = holds s .tripSuction → t.suction = s.suction) ∧
            (holds s .tripSuction = true → holds t .tripSuction = false → s.suction.state = .tripped →
              t.suction.state =
                  (if inhibited s = true then .inhibited else if 2000 ≤ s.suction.speed then .coast else .off) ∧
                t.suction.coastAt =
                  (if inhibited s = false ∧ 2000 ≤ s.suction.speed then some (s.clock + 3000000) else none) ∧
                t.suction.pSet = 0 ∧ t.suction.demand = s.suction.demand ∧ t.suction.lastEnd = s.suction.lastEnd ∧
                t.suction.speed = s.suction.speed ∧ Raised .suctionState s t) ∧
            (holds t .stopCharge = holds s .stopCharge → t.charge = (arrive r s).charge) ∧
            (holds s .stopCharge = true → holds t .stopCharge = false → s.charge.stage = .faulted →
              t.charge.stage = (if evacuating s = true then .hold else .negotiating) ∧ t.charge.totalMs = 0 ∧
                t.charge.preMs = 0 ∧ t.charge.stageMs = 0 ∧ t.charge.cap = none ∧ t.charge.scanWait = true ∧
                t.charge.linkFlag = s.charge.linkFlag ∧ t.charge.resyncRequired = s.charge.resyncRequired ∧
                (evacuating s = true → t.charge.curGrant = 0 ∧ t.charge.voltGrant = 0) ∧
                Raised .chargeStage s t) ∧
            t.head = (arrive r s).head ∧
            (headPwr t = true ↔ s.head.attached = true ∧ s.head.announced = true ∧ s.head.type ≠ .none ∧
              s.power.mode = .active ∧ docked s = false ∧ holds t .tripBrush = false))) ∧
      (effTier s r = 0 →
        (judged s (.writeFault r n (some true) false) = true →
          ∃ t, exec (.writeFault r n (some true) false) s = .next t ∧ OnlyChanges [.faults, .ports] (arrive r s) t ∧
            AnsweredWith r (okReply .empty) t ∧
          entryAt t n = { entryAt s n with enabled := true } ∧ (∀ k, k ≠ n → entryAt t k = entryAt s k)) ∧
        (judged s (.writeFault r n (some false) false) = true → n = 8 ∨ n = 9 ∨ n = 12 →
          ∃ t, exec (.writeFault r n (some false) false) s = .next t ∧
            OnlyChanges [.faults, .ports] (arrive r s) t ∧ AnsweredWith r (okReply .empty) t ∧
            (entryAt t n).enabled = false ∧ (entryAt t n).latched = false ∧ (entryAt t n).present = false ∧
            (entryAt t n).acc = none ∧ (entryAt t n).occurrences = (entryAt s n).occurrences ∧
            (∀ k, k ≠ n → entryAt t k = entryAt s k) ∧ ((entryAt s n).latched = true → Raised .faultRetired s t) ∧
            (headPwr t = true ↔ s.head.attached = true ∧ s.head.announced = true ∧ s.head.type ≠ .none ∧
              s.power.mode = .active ∧ docked s = false ∧ holds t .tripBrush = false)) ∧
        (judged s (.writeFault r n (some false) false) = true → n ≠ 8 → n ≠ 9 → n ≠ 12 →
          exec (.writeFault r n (some false) false) s = .next (answer r (refusal .range) (arrive r s))) ∧
        (judged s (.writeFault r n none false) = true →
          exec (.writeFault r n none false) s = .next (answer r (refusal .range) (arrive r s))) ∧
        (∀ e, judged s (.writeFault r n e true) = true →
          exec (.writeFault r n e true) s = .next (answer r (refusal .range) (arrive r s))))

/-- R175, R177, R179, R180: a taken WRITE of STORE starts a program of its slot and changes nothing else; the factory segment
needs UNLOCK first; a length or contents that fail are answered RANGE, before the lock and a busy store; a program's completion makes
its slot VALID and starts the oldest queued tag with the value held then. The checks of a value are those of `SlotContent` (log
entries 34, 57); that a profile slot whose flag byte is neither 0 nor 1 (log entry 14), or a stated length other than the value's (log
entry 59), is answered RANGE is DEDUCED.
Where the clock moves to a deadline, that is the model's choice (log entry 2). -/
def Obligations.StoreProgramsAndUnlock : Prop :=
  ∀ (r : Req) (s : State),
    (Settled s → r.fits = true →
      (∀ t n v, judged s (.writeStore r t n v) = true → 1 ≤ t → t ≤ 40 →
        effTier s r ≤ (if t ≤ 22 then 0 else if 30 ≤ t ∧ t ≤ 33 then 2 else 1) →
        n ≠ v.length ∨ ¬TagLength t v.length ∨ ¬SlotContent s t v →
        exec (.writeStore r t n v) s = .next (answer r (refusal .range) (arrive r s))) ∧
      (∀ t v, judged s (.writeStore r t v.length v) = true → 1 ≤ t → t ≤ 40 →
        effTier s r ≤ (if t ≤ 22 then 0 else if 30 ≤ t ∧ t ≤ 33 then 2 else 1) →
        TagLength t v.length → SlotContent s t v →
        ((22 < t ∨ s.store.locked = false) → storeBusy s = false →
          ∃ u, exec (.writeStore r t v.length v) s = .next u ∧ OnlyChanges [.store, .ports] (arrive r s) u ∧
            u.store = { s.store with program := some ⟨t, v, s.clock + 30000⟩ } ∧
            AnsweredWith r (okReply (.store ⟨true, some t, some 30, s.store.queue, s.store.locked, s.store.replaced,
              s.store.blank⟩)) u) ∧
          (t ≤ 22 → s.store.locked = true →
            exec (.writeStore r t v.length v) s =
              .next (answer r ⟨.state, .cause .locked, false⟩ (arrive r s))) ∧
          ((22 < t ∨ s.store.locked = false) → storeBusy s = true →
            exec (.writeStore r t v.length v) s = .next (answer r (refusal .busy) (arrive r s)))) ∧
        (judged s (.unlock r) = true → effTier s r = 0 →
          exec (.unlock r) s =
            .next (answer r (okReply .empty) ((arrive r s).setStore { s.store with locked := false })))) ∧
      (∀ p, s.store.program = some p → isTag p.tag = true → TagLength p.tag p.value.length →
        s.store.slots.length = 40 →
        ∃ u, exec .storeProgramComplete s = .next u ∧ OnlyChanges [.clock, .store] s u ∧
          u.clock = max s.clock p.endAt ∧ slotState p.tag (slotAt u.store.slots p.tag) = .valid ∧
          handed u.store.slots p.tag = some p.value ∧ StoredAt u.store.slots p.tag p.value ∧
          (∀ t, isTag t = true → t ≠ p.tag → slotAt u.store.slots t = slotAt s.store.slots t) ∧
          u.store.locked = s.store.locked ∧
          (s.store.queue = [] → u.store.program = none ∧ u.store.queue = []) ∧
          (∀ t l, s.store.queue = t :: l →
            u.store.program = some ⟨t, ownerValue s t, u.clock + 30000⟩ ∧ u.store.queue = l))

/-! ### Suction gates (03) -/

/-- R50, R51: MODE selects a present profile and nothing else; BOOST sets the boost deadline of an active demand, brought into the
gate's bounds under CLAMP; with no demand it is answered STATE, outside the bounds too. -/
def Obligations.ModeAndBoost : Prop :=
  ∀ (r : Req) (i : Nat) (s : State), Settled s →
    (judged s (.mode r i) = true → gateOpen s 0 r i = true → i ≤ 7 →
      ((profileAt s i).present = true →
        exec (.mode r i) s =
          .next (answer r (okReply .empty) ((arrive r s).setSuction { s.suction with activeProfile := i }))) ∧
        ((profileAt s i).present = false → exec (.mode r i) s = .next (answer r (refusal .absent) (arrive r s)))) ∧
      (judged s (.boost r i) = true → gateOpen s 2 r i = true → ∀ d, s.suction.demand = some d →
        exec (.boost r i) s =
          .next (answer r (okReply .empty) ((arrive r s).setSuction
            { s.suction with demand := some { d with boostAt := some (s.clock + i * 1000000) } }))) ∧
      (judged s (.boost r i) = true → gateOpen s 2 r i = true → s.suction.demand = none →
        exec (.boost r i) s = .next (answer r (refusal .state) (arrive r s))) ∧
      (∀ k lo hi d, judged s (.boost r i) = true → gateOpen s 2 r k = true →
        (gateAt s 2).bound = some ⟨lo, hi, .clamp⟩ → lo ≤ hi → (i < lo ∨ hi < i) → s.suction.demand = some d →
        exec (.boost r i) s =
          .next (answer r ⟨.clamped, .empty, false⟩ ((arrive r s).setSuction
            { s.suction with
              demand := some { d with boostAt := some (s.clock + (if i < lo then lo else hi) * 1000000) } }))) ∧
      (∀ k lo hi, judged s (.boost r i) = true → gateOpen s 2 r k = true →
        (gateAt s 2).bound = some ⟨lo, hi, .clamp⟩ → lo ≤ hi → (i < lo ∨ hi < i) → s.suction.demand = none →
          exec (.boost r i) s = .next (answer r (refusal .state) (arrive r s)))

/-- R46, R54, R182, R184: a press with no demand, in OFF or COAST, creates one and goes to SPIN_UP, or on to RUN at 30,000 rpm; in
STANDBY it brings the part to ACTIVE first. The causes that refuse it come in order; in STANDBY too, where the short flag is clear by
then and the part has entered ACTIVE though the press is refused (log entry 35, DEDUCED). -/
def Obligations.PressesCreateDemands : Prop :=
  ∀ (r : Req) (s : State), judged s (.trigger r 1) = true → Settled s → gateOpen s 1 r 1 = true → s.suction.demand = none →
    ((s.suction.state = .off ∨ s.suction.state = .coast) → (activeProfile s).present = true →
      (s.power.mode = .active → s.budget.record.short = false) →
      ∃ t, exec (.trigger r 1) s = .next t ∧
        t.suction.demand = some ⟨r.port, s.clock + s.suction.holdTime * 1000, none⟩ ∧
        t.suction.state = (if 30000 ≤ s.suction.speed then .run else .spinUp) ∧ t.suction.pSet = 0 ∧ men t = true ∧
        t.suction.spinUpAt = (if 30000 ≤ s.suction.speed then none else some (s.clock + 1500000)) ∧
        t.suction.lastEnd = s.suction.lastEnd ∧ t.suction.activeProfile = s.suction.activeProfile ∧
        t.power.sleepDue = none ∧ Raised .suctionState s t ∧
        AnsweredWith r (okReply (.suctionState t.suction.state)) t ∧
        (s.power.mode = .active →
          t.power.mode = .active ∧ OnlyChanges [.suction, .dirt, .power, .ports] (arrive r s) t) ∧
        (s.power.mode = .standby → EnteredActive .trigger s t) ∧
        (30000 ≤ s.suction.speed →
          t.dirt.window = some ⟨s.clock, s.dirt.params, 0, 0, s.dirt.economy, true⟩)) ∧
      (∀ c, s.power.mode = .active →
        c = (if s.suction.state = .inhibited then some Cause.inhibited
          else if s.suction.state = .tripped then some .tripped
          else if (activeProfile s).present = false then some .noProfile
          else if s.budget.record.short = true then some .short else none) →
        ∀ x, c = some x → exec (.trigger r 1) s = .next (answer r ⟨.state, .cause x, false⟩ (arrive r s))) ∧
      (∀ c, s.power.mode = .standby →
        c = (if s.suction.state = .inhibited then some Cause.inhibited
          else if s.suction.state = .tripped then some .tripped
          else if (activeProfile s).present = false then some .noProfile else none) →
        ∀ x, c = some x →
          ∃ t, exec (.trigger r 1) s = .next t ∧ EnteredActive .trigger s t ∧
            OnlyChanges [.power, .scan, .budget, .faults, .ports] (arrive r s) t ∧
            t.power.sleepDue = s.power.sleepDue ∧ t.power.lastSleepEnd = s.power.lastSleepEnd ∧
            (∀ k, entryAt t k = entryAt s k) ∧ AnsweredWith r ⟨.state, .cause x, false⟩ t)

/-- R47, R49, R54, R55, R184: a press refreshes an active demand, from either port; a release from the source port ends it, and
suction coasts; from the other port it is refused NOT_SOURCE; with no demand it is answered OK. -/
def Obligations.RefreshesAndReleases : Prop :=
  ∀ (r : Req) (s : State), Settled s →
    (∀ d, judged s (.trigger r 1) = true → s.suction.demand = some d → gateOpen s 1 r 1 = true → s.power.mode = .active →
      ∃ t, exec (.trigger r 1) s = .next t ∧ OnlyChanges [.suction, .power, .ports] (arrive r s) t ∧
        t.suction = { s.suction with demand := some { d with holdAt := s.clock + s.suction.holdTime * 1000 } } ∧
        t.power.sleepDue = none ∧ (s.power.sleepDue.isSome = true → t.power.lastSleepEnd = .cancelled) ∧
        AnsweredWith r (okReply .empty) t) ∧
      (judged s (.trigger r 0) = true → gateOpen s 1 r 0 = true →
        (s.suction.demand = none → exec (.trigger r 0) s = .next (answer r (okReply .empty) (arrive r s))) ∧
        (∀ d, s.suction.demand = some d → d.source ≠ r.port →
          exec (.trigger r 0) s = .next (answer r ⟨.state, .cause .notSource, false⟩ (arrive r s))) ∧
        (∀ d, s.suction.demand = some d → d.source = r.port → men s = true →
          ∃ t, exec (.trigger r 0) s = .next t ∧ OnlyChanges [.suction, .dirt, .power, .ports] (arrive r s) t ∧
            t.suction.demand = none ∧ t.suction.lastEnd = .released ∧ men t = false ∧ t.suction.pSet = 0 ∧
            t.suction.state = (if s.suction.speed < 2000 then .off else .coast) ∧
            t.suction.coastAt = (if s.suction.speed < 2000 then none else some (s.clock + 3000000)) ∧
            (s.suction.state = .run → t.dirt.level = 0 ∧ t.dirt.window = none ∧ t.dirt.recent = []) ∧
            Raised .demandEnded s t ∧ Raised .suctionState s t ∧ AnsweredWith r (okReply .empty) t))

/-! ### Motor events (03) -/

/-- R61, R54, R55, R56: the speed is set at accepted pulses to 30,000,000 / period; a pulse under 100 µs after the last
accepted one is rejected; the first starts the timing; after 100 ms without one the speed is 0, and a later pulse starts the
timing anew. Where the clock moves to a deadline, that is the model's choice (log entry 2). The wait before a pulse is the
command's operand (log entry 2). -/
def Obligations.TachMeasuresTheSpeed : Prop :=
  ∀ (w : Nat) (s : State), asleep s = false → Settled s →
    (s.suction.lastPulse = none →
      exec (.tachPulse w) s =
        .next ((s.setClock (s.clock + w)).setSuction { s.suction with lastPulse := some (s.clock + w) })) ∧
      (∀ p, s.suction.lastPulse = some p → s.clock + w - p < 100 →
        exec (.tachPulse w) s = .next (s.setClock (s.clock + w))) ∧
      (∀ p, s.suction.lastPulse = some p → 100 ≤ s.clock + w - p → s.clock + w - p ≤ 100000 →
        ∃ t, exec (.tachPulse w) s = .next t ∧ OnlyChanges [.clock, .suction, .dirt, .power, .ports] s t ∧
          t.clock = s.clock + w ∧ t.suction.speed = 30000000 / (s.clock + w - p) ∧
          t.suction.lastPulse = some (s.clock + w) ∧ t.suction.demand = s.suction.demand ∧
          t.suction.state =
            (if s.suction.state = .spinUp ∧ 30000 ≤ t.suction.speed then .run
            else if s.suction.state = .coast ∧ t.suction.speed < 2000 then .off else s.suction.state) ∧
          (s.suction.state = .run → 0 < t.suction.speed → t.suction.stallAt = none) ∧
          (t.suction.state ≠ s.suction.state → Raised .suctionState s t)) ∧
      (∀ p, s.suction.lastPulse = some p → 100000 < s.clock + w - p →
        ∃ t, exec (.tachPulse w) s = .next t ∧ OnlyChanges [.clock, .suction, .power, .ports] s t ∧
          t.clock = s.clock + w ∧ t.suction.speed = 0 ∧ t.suction.lastPulse = some (s.clock + w) ∧
          t.suction.demand = s.suction.demand ∧
          t.suction.state = (if s.suction.state = .coast then .off else s.suction.state) ∧
          (s.suction.state = .run → s.suction.stallAt = none →
            t.suction.stallAt = some (max s.clock (p + 100000) + 200000)) ∧
          (t.suction.state ≠ s.suction.state → Raised .suctionState s t)) ∧
      (∀ p, s.suction.lastPulse = some p →
        ∃ t, exec .speedTimeout s = .next t ∧ OnlyChanges [.clock, .suction, .power, .ports] s t ∧
          t.clock = max s.clock (p + 100000) ∧ t.suction.speed = 0 ∧ t.suction.lastPulse = none ∧
          t.suction.demand = s.suction.demand ∧
          t.suction.state = (if s.suction.state = .coast then .off else s.suction.state) ∧
          (s.suction.state = .run → s.suction.stallAt = none → t.suction.stallAt = some (t.clock + 200000)))

/-- R53, R54, R55, R149, R152: at the expiry of the spin-up or the stall timer MOTOR_STALL latches as a one-shot and suction
trips. Where the clock moves to a deadline, that is the model's choice (log entry 2). -/
def Obligations.MotorTimersTripSuction : Prop :=
  ∀ (c : Instr) (at_ : Nat) (s : State), Settled s →
    (c = .spinUpTimeout ∧ s.suction.spinUpAt = some at_) ∨ (c = .stallTimeout ∧ s.suction.stallAt = some at_) →
    men s = true → s.faults.entries.length = 18 → (entryAt s 6).enabled = true → holds s .tripSuction = false →
    ∃ t, exec c s = .next t ∧ OnlyChanges [.clock, .suction, .dirt, .faults, .ports, .power] s t ∧
      t.clock = max s.clock at_ ∧ t.suction.state = .tripped ∧ t.suction.demand = none ∧ men t = false ∧
      t.suction.pSet = 0 ∧ t.suction.spinUpAt = none ∧ t.suction.stallAt = none ∧
      (s.suction.demand.isSome = true → t.suction.lastEnd = .tripped ∧ Raised .demandEnded s t) ∧
      (entryAt t 6).latched = true ∧ (entryAt t 6).present = false ∧
      (entryAt t 6).lastValue = some (s.suction.speed : Int) ∧ (entryAt t 6).latchSeq = some s.scan.seq ∧
      (entryAt t 6).occurrences = min 255 ((entryAt s 6).occurrences + 1) ∧
      (∀ n, n ≠ 6 → entryAt t n = entryAt s n) ∧ holds t .tripSuction = true ∧
      Raised .faultLatched s t ∧ Raised .suctionState s t

/-- R48, R49, R50, R56: the hold deadline ends the demand EXPIRED and suction coasts; the boost deadline clears the boost flag
alone; the coast timer takes COAST to OFF. Where the clock moves to a deadline, that is the model's choice (log entry 2). -/
def Obligations.DemandAndCoastDeadlines : Prop :=
  ∀ s : State, Settled s →
    (∀ d, s.suction.demand = some d → men s = true →
      ∃ t, exec .demandExpired s = .next t ∧ OnlyChanges [.clock, .suction, .dirt, .power, .ports] s t ∧
        t.clock = max s.clock d.holdAt ∧ t.suction.demand = none ∧ t.suction.lastEnd = .expired ∧ men t = false ∧
        t.suction.pSet = 0 ∧ t.suction.state = (if s.suction.speed < 2000 then .off else .coast) ∧
        Raised .demandEnded s t ∧ Raised .suctionState s t) ∧
      (∀ d b, s.suction.demand = some d → d.boostAt = some b →
        exec .boostExpired s =
          .next ((s.setClock (max s.clock b)).setSuction { s.suction with demand := some { d with boostAt := none } })) ∧
      (∀ b, s.suction.state = .coast → s.suction.coastAt = some b →
        ∃ t, exec .coastTimeout s = .next t ∧ OnlyChanges [.clock, .suction, .power, .ports] s t ∧
          t.clock = max s.clock b ∧ t.suction.state = .off ∧ t.suction.coastAt = none ∧ t.suction.pSet = 0 ∧
          t.suction.demand = s.suction.demand ∧ t.suction.speed = s.suction.speed ∧ Raised .suctionState s t)

/-- R53, R57, R62, R113: the stop state inhibits suction and ends a demand STOPPED; its release lets suction go once no other cause
holds. In an exchange the first assertion gives EVAC_RUNNING and the release after it EVAC_ENDING. That both act in DORMANT and
SHELF too is DEDUCED (log entry 33). -/
def Obligations.StopLineInhibitsSuction : Prop :=
  ∀ s : State, Settled s →
    (s.suction.stop = false →
      ∃ t, exec .stopAssert s = .next t ∧ OnlyChanges [.suction, .dirt, .bin, .power, .ports] s t ∧
        t.suction.stop = true ∧
        t.suction.state = (if s.suction.state = .tripped then .tripped else .inhibited) ∧
        (men s = true → t.suction.demand = none ∧ t.suction.pSet = 0 ∧ men t = false ∧ Raised .suctionState s t) ∧
        (∀ d, s.suction.demand = some d → men s = true → t.suction.lastEnd = .stopped ∧ Raised .demandEnded s t) ∧
        t.bin = { s.bin with evac := if s.bin.evac = .granted then .running else s.bin.evac } ∧
        (s.bin.evac = .granted → Raised .evacState s t)) ∧
      (s.suction.stop = true →
        ∃ t, exec .stopRelease s = .next t ∧ OnlyChanges [.suction, .dirt, .bin, .power, .ports] s t ∧
          t.suction.stop = false ∧ t.suction.demand = s.suction.demand ∧
          t.suction.state =
            (if s.suction.state = .inhibited ∧ docked s = false ∧ evacuating s = false then
              (if 2000 ≤ s.suction.speed then .coast else .off)
            else s.suction.state) ∧
          t.bin = { s.bin with evac := if s.bin.evac = .running then .ending else s.bin.evac } ∧
          (s.bin.evac = .running → Raised .evacState s t))

/-! ### Head (04) -/

/-- R71, R72, R144, R182, R184: an attach opens a fresh head record, an end of a deferred sleep and, in STANDBY, a return to ACTIVE; a
detach clears the record and the two head conditions. -/
def Obligations.HeadLinesAttachAndDetach : Prop :=
  ∀ s : State, Settled s →
    (asleep s = false → s.head.attached = false →
      ∃ t, exec .headAttach s = .next t ∧
        t.head = ⟨true, false, false, .none, none, none, .unknown, 0, 0, s.head.frameSeen, s.clock⟩ ∧
        t.power.sleepDue = none ∧ (s.power.sleepDue.isSome = true → t.power.lastSleepEnd = .cancelled) ∧
        Raised .headChange s t ∧ (s.power.mode = .standby → EnteredActive .head s t) ∧
        (s.power.mode = .active → OnlyChanges [.head, .power, .ports] s t ∧ t.power.mode = .active)) ∧
      (s.head.attached = true → s.faults.entries.length = 18 →
        ∃ t, exec .headDetach s = .next t ∧ OnlyChanges [.head, .faults, .power, .ports] s t ∧
          t.head = ⟨false, false, false, .none, none, none, .unknown, 0, 0, false, s.head.silentSince⟩ ∧
          headPwr t = false ∧ t.power.mode = s.power.mode ∧ Raised .headChange s t ∧
          entryAt t 9 = { entryAt s 9 with present := false, acc := none } ∧
          entryAt t 10 = { entryAt s 10 with present := false, acc := none } ∧
          (∀ n, n ≠ 9 → n ≠ 10 → entryAt t n = entryAt s n))

/-- R74, R75, R78, R79: the announce is judged and taken once on the head port; a claim and a floor report are taken while
announced, a claim above the cap answered CLAMPED and stored as given. A number that the gate itself clamps is taken as clamped
and answered CLAMPED (R169). -/
def Obligations.HeadRequestsAreTaken : Prop :=
  ∀ (r : Req) (s : State), Settled s → r.fits = true →
    (∀ code id fw, judged s (.announce r code id fw) = true → r.port ≠ .head →
      exec (.announce r code id fw) s = .next (answer r (refusal .kind) (arrive r s))) ∧
      (∀ code id fw, judged s (.announce r code id fw) = true → r.port = .head → 2 < code →
        exec (.announce r code id fw) s = .next (answer r (refusal .range) (arrive r s))) ∧
      (∀ code id fw, judged s (.announce r code id fw) = true → r.port = .head → code ≤ 2 → s.head.attached = false →
        exec (.announce r code id fw) s = .next (answer r ⟨.state, .cause .detached, false⟩ (arrive r s))) ∧
      (∀ code id fw, judged s (.announce r code id fw) = true → r.port = .head → code ≤ 2 → s.head.attached = true →
        s.head.identRead = false →
        exec (.announce r code id fw) s = .next (answer r ⟨.state, .cause .noIdent, false⟩ (arrive r s))) ∧
      (∀ code id fw, judged s (.announce r code id fw) = true → r.port = .head → code ≤ 2 → s.head.attached = true →
        s.head.identRead = true →
        (s.head.announced = false →
          ∃ t, exec (.announce r code id fw) s = .next t ∧ OnlyChanges [.head, .ports] (arrive r s) t ∧
            t.head = { (arrive r s).head with
              announced := true
              type := if code = 1 then .motorBrush else if code = 2 then .softRoller else .none
              id := some id, firmware := some fw } ∧
            Raised .headChange s t ∧ AnsweredWith r (okReply .empty) t) ∧
          (s.head.announced = true → s.head.type = headTypeOf code → s.head.id = some id →
            exec (.announce r code id fw) s =
              .next (answer r (okReply .empty)
                ((arrive r s).setHead { (arrive r s).head with firmware := some fw }))) ∧
          (s.head.announced = true → s.head.type ≠ headTypeOf code ∨ s.head.id ≠ some id →
            exec (.announce r code id fw) s =
              .next (answer r ⟨.state, .cause .announced, false⟩ (arrive r s)))) ∧
      (∀ w v, judged s (.brushClaim r w) = true → GateTakes s 4 r w v →
        (s.head.announced = true →
          exec (.brushClaim r w) s =
            .next (answer r
              ⟨if s.head.type.cap < v ∨ v ≠ w then .clamped else .ok, .claim v s.head.type.cap s.head.grant, false⟩
              ((arrive r s).setHead { (arrive r s).head with claim := v }))) ∧
          (s.head.announced = false → exec (.brushClaim r w) s = .next (answer r (refusal .state) (arrive r s)))) ∧
      (∀ f v, judged s (.floorReport r f) = true → GateTakes s 5 r f v →
        (s.head.announced = true →
          exec (.floorReport r f) s =
            .next (answer r ⟨if v = f then .ok else .clamped, .empty, false⟩
              ((arrive r s).setHead { (arrive r s).head with
                floor := if v = 0 then .hard else if v = 1 then .lowPile else if v = 2 then .highPile else .unknown }))) ∧
          (s.head.announced = false → exec (.floorReport r f) s = .next (answer r (refusal .state) (arrive r s))))

/-! ### Dirt (05) -/

/-- R85, R96, R97: a trip begins a strike unless one is in its dead time, a fine one only outside economy; the strike is
counted at the end of its dead time as coarse if the coarse comparator tripped since; WCL falls after its 20 µs. The economy
state is judged at each completed scan by its SOC, and an open window becomes an economy window with its fine count 0. Where the
clock moves to a deadline, that is the model's choice (log entry 2); that the fine comparator stays off until the window closes is
DEDUCED (log entry 23), and that economy is judged after the charge controller's work on the scan is the model's order (log entry
12). -/
def Obligations.StrikesAreCounted : Prop :=
  ∀ s : State,
    (∀ w coarse, s.dirt.window = some w → s.dirt.strike = none →
      (coarse = true ∨ (s.dirt.economy = false ∧ w.economy = false)) →
      exec (.strike coarse) s = .next (s.setDirt { s.dirt with strike := some ⟨s.clock + 200, coarse⟩ })) ∧
      (∀ w, s.dirt.window = some w → s.dirt.strike = none → (s.dirt.economy = true ∨ w.economy = true) →
        exec (.strike false) s = .next s) ∧
      (∀ w k coarse, s.dirt.window = some w → s.dirt.strike = some k →
        exec (.strike coarse) s = .next (s.setDirt { s.dirt with strike := some ⟨k.endAt, k.coarse || coarse⟩ })) ∧
      (∀ coarse, s.dirt.window = none → exec (.strike coarse) s = .next s) ∧
      (∀ w k, s.dirt.window = some w → s.dirt.strike = some k →
        exec .deadTimeEnd s =
          .next ((s.setClock (max s.clock k.endAt)).setDirt { s.dirt with
            strike := none
            window := some
              (if k.coarse = true then { w with coarse := min 65535 (w.coarse + 1) }
              else if s.dirt.economy = true ∨ w.economy = true then w
              else { w with fine := min 65535 (w.fine + 1) }) })) ∧
      (∀ x, s.dirt.wclUntil = some x →
        exec .wclPulseEnd s = .next ((s.setClock (max s.clock x)).setDirt { s.dirt with wclUntil := none })) ∧
      (∀ (x wait : Nat) (codes : PerChannel Nat), s.scan.inProgress = some x → s.power.mode ≠ .shelf →
        ∃ t, exec (.scanComplete wait codes) s = .next t ∧
          (t.power.mode ≠ .shelf →
            t.dirt.economy =
                (if s.dirt.economy = true then decide (t.account.qRem * 100 / t.account.qFull < 20)
                else decide (t.account.qRem * 100 / t.account.qFull ≤ 15)) ∧
              (t.suction.state = s.suction.state →
                t.dirt = { s.dirt with
                  economy := t.dirt.economy
                  window :=
                    if s.dirt.economy = false ∧ t.dirt.economy = true then
                      s.dirt.window.map fun w => { w with fine := 0, economy := true }
                    else s.dirt.window }) ∧
              (s.suction.state = .run → t.suction.state ≠ .run → t.dirt.window = none ∧ t.dirt.level = 0)) ∧
          (t.power.mode = .shelf → t.dirt.economy = false))

/-- R87, R90, R91, R93, R95, R96, R104, R106, R107: a close appends its record to the ring, takes its score into the sum,
raises the level, credits the bin, pulses WCL and opens the next window. At a wrap of the window counter the ring is emptied first
and every cursor becomes invalid. Where the clock moves to a deadline, that is the model's choice (log entry 2). -/
def Obligations.WindowClosesInOrder : Prop :=
  ∀ (w : Window) (s : State), Settled s → s.dirt.window = some w → s.bin.f ≤ 65535 →
    ∃ t x, exec .windowClose s = .next t ∧ OnlyChanges [.clock, .dirt, .bin, .store, .ports] s t ∧
      t.clock = max s.clock (w.openedAt + w.params.length * 1000) ∧
      x.seq = s.dirt.seq ∧ x.fine = w.fine ∧ x.coarse = w.coarse ∧ x.floor = s.head.floor ∧ x.level = t.dirt.level ∧
      x.economy = w.economy ∧ x.first = w.first ∧
      t.dirt.ring =
        (if s.dirt.seq = 0 then [x] else if s.dirt.ring.length < 64 then s.dirt.ring ++ [x]
        else s.dirt.ring.tail ++ [x]) ∧
      t.dirt.seq = (s.dirt.seq + 1) % 4294967296 ∧
      t.dirt.cursors =
        (if s.dirt.seq = 0 ∧ s.dirt.ring ≠ [] then ⟨.invalid, .invalid, .invalid⟩ else s.dirt.cursors) ∧
      t.dirt.economy = s.dirt.economy ∧ t.dirt.strike = s.dirt.strike ∧ t.dirt.params = s.dirt.params ∧
      t.dirt.levels = s.dirt.levels ∧
      t.dirt.recent =
        (if s.dirt.recent.length < 4 then s.dirt.recent ++ [x.score] else s.dirt.recent.tail ++ [x.score]) ∧
      t.dirt.scoreSum = t.dirt.recent.sum ∧
      t.dirt.e1 = s.dirt.levels.l1 * s.dirt.levels.multiplier s.head.floor / 100 ∧
      t.dirt.e2 = s.dirt.levels.l2 * s.dirt.levels.multiplier s.head.floor / 100 ∧
      t.dirt.e3 = s.dirt.levels.l3 * s.dirt.levels.multiplier s.head.floor / 100 ∧
      (∀ k e, (k = 1 ∧ e = t.dirt.e1) ∨ (k = 2 ∧ e = t.dirt.e2) ∨ (k = 3 ∧ e = t.dirt.e3) → e ≤ t.dirt.scoreSum →
        k ≤ t.dirt.level) ∧
      (s.dirt.level < t.dirt.level → t.dirt.holdDown = 0 ∧
        (if t.dirt.level = 1 then t.dirt.e1 else if t.dirt.level = 2 then t.dirt.e2 else t.dirt.e3) ≤ t.dirt.scoreSum) ∧
      (t.dirt.level ≠ s.dirt.level → Raised .levelChange s t) ∧
      t.bin = { s.bin with f := min 65535 (s.bin.f + (if w.economy = true then 0 else w.fine) + w.coarse * 6) } ∧
      (fill s / 10 ≠ fill t / 10 → SaveUnderway 40 t) ∧
      (fill s < 90 → 90 ≤ fill t → Raised .binNear s t) ∧ (fill s < 100 → fill t = 100 → Raised .binFull s t) ∧
      t.dirt.wclUntil = some (t.clock + 20) ∧
      t.dirt.window = some ⟨t.clock, s.dirt.params, 0, 0, s.dirt.economy, false⟩

/-- R89, its worked examples with it: the raw value with the weights fixed at the opening, saturating; S as the budget record stands
at the close; score_w = raw × 200 / m with m at least 50. -/
def Obligations.WindowScores : Prop :=
  ∀ (w : Window) (s : State), s.dirt.window = some w →
    ∃ t x raw, exec .windowClose s = .next t ∧ t.dirt.ring.getLast? = some x ∧
      raw = min 65535 (w.fine * w.params.wFine + w.coarse * w.params.wCoarse) ∧ x.s = s.budget.record.s ∧
      x.score = raw * 200 / (if 50 ≤ s.budget.record.s then s.budget.record.s else 50) ∧ x.score ≤ 262140 ∧
      (raw = 60 → s.budget.record.s = 120 → x.score = 100) ∧ (raw = 60 → s.budget.record.s = 200 → x.score = 60) ∧
      (raw = 60 → s.budget.record.s = 300 → x.score = 40) ∧ (s.budget.record.s = 200 → x.score = raw)

/-- R94: the hold-down count and the fall of the level, at a close where the level does not rise. The premises are the ranges
of the law kept by every step (DirtAndRingLawsAreKept). -/
def Obligations.LevelFallsByHoldDown : Prop :=
  ∀ (w : Window) (s : State), s.dirt.window = some w → s.dirt.level ≤ 3 → s.dirt.holdDown ≤ 9 →
    (s.dirt.level = 0 → s.dirt.holdDown = 0) →
    ∃ t mark, exec .windowClose s = .next t ∧
      mark = (if s.dirt.level = 1 then t.dirt.e1 else if s.dirt.level = 2 then t.dirt.e2 else t.dirt.e3) * 3 / 4 ∧
      t.dirt.e1 = s.dirt.levels.l1 * s.dirt.levels.multiplier s.head.floor / 100 ∧
      t.dirt.e2 = s.dirt.levels.l2 * s.dirt.levels.multiplier s.head.floor / 100 ∧
      t.dirt.e3 = s.dirt.levels.l3 * s.dirt.levels.multiplier s.head.floor / 100 ∧ t.dirt.holdDown ≤ 10 ∧
      (¬s.dirt.level < t.dirt.level → 0 < s.dirt.level →
        (t.dirt.scoreSum < mark → s.dirt.holdDown + 1 < 10 →
          t.dirt.level = s.dirt.level ∧ t.dirt.holdDown = s.dirt.holdDown + 1) ∧
          (t.dirt.scoreSum < mark → s.dirt.holdDown + 1 = 10 →
            t.dirt.level = s.dirt.level - 1 ∧ t.dirt.holdDown = 0) ∧
          (mark ≤ t.dirt.scoreSum → t.dirt.level = s.dirt.level ∧ t.dirt.holdDown = 0)) ∧
      (s.dirt.level = 0 → t.dirt.level = 0 → t.dirt.holdDown = 0)

/-! ### Evacuation and charge (06, 07) -/

/-- R111, R112, R114, R115, R117, R124, R130, R132: an exchange opens in the dock with suction INHIBITED and the motor stopped, ends
by the dock's report or by its timer, and holds the charge while it lasts; at its end the session leaves HOLD as `HoldWithoutEvac`
has it. Where the clock moves to a deadline, that is the model's choice (log entry 2). -/
def Obligations.EvacuationExchanges : Prop :=
  ∀ (r : Req) (s : State), Settled s →
    (judged s (.evacRequest r) = true → gateOpen s 7 r 0 = true →
      (docked s = false → exec (.evacRequest r) s = .next (answer r ⟨.state, .cause .notDocked, false⟩ (arrive r s))) ∧
        (docked s = true → evacuating s = true →
          exec (.evacRequest r) s = .next (answer r ⟨.state, .cause .inProgress, false⟩ (arrive r s))) ∧
        (docked s = true → evacuating s = false → s.suction.state ≠ .inhibited →
          exec (.evacRequest r) s = .next (answer r ⟨.state, .cause .suctionTripped, false⟩ (arrive r s))) ∧
        (docked s = true → evacuating s = false → s.suction.state = .inhibited → motorStopped s = false →
          exec (.evacRequest r) s = .next (answer r ⟨.state, .cause .motorTurning, false⟩ (arrive r s))) ∧
        (docked s = true → evacuating s = false → s.suction.state = .inhibited → motorStopped s = true →
          ∃ t, exec (.evacRequest r) s = .next t ∧ OnlyChanges [.bin, .charge, .power, .ports] (arrive r s) t ∧
            t.bin = { s.bin with
              evac := if s.suction.stop = true then .running else .granted, evacAt := some (s.clock + 60000000) } ∧
            t.charge.stage = (if s.charge.stage = .faulted then .faulted else .hold) ∧
            (s.charge.stage ≠ .faulted → s.charge.stage ≠ .hold →
              t.charge.curGrant = 0 ∧ t.charge.voltGrant = 0 ∧ t.charge.balance = []) ∧
            Raised .evacState s t ∧ AnsweredWith r (okReply (.evacTimer 60000)) t)) ∧
      (∀ code, judged s (.evacDone r code) = true → gateOpen s 8 r code = true →
        (evacuating s = false → exec (.evacDone r code) s = .next (answer r (refusal .state) (arrive r s))) ∧
          (evacuating s = true →
            ∃ t, exec (.evacDone r code) s = .next t ∧
              OnlyChanges [.bin, .store, .suction, .charge, .power, .ports] (arrive r s) t ∧
              t.bin = ⟨if code = 0 then 0 else if code = 1 then s.bin.f / 4 else s.bin.f, s.bin.fFull, .idle, none,
                if code = 0 then .complete else if code = 1 then .reduced else .aborted, .reported⟩ ∧
              (t.bin.f ≠ s.bin.f → SaveUnderway 40 t) ∧ Raised .evacState s t ∧
              AnsweredWith r (okReply (.fill t.bin.f (fill t))) t ∧ t.suction.demand = s.suction.demand ∧
              (docked s = true → t.suction = s.suction) ∧
              (s.charge.stage ≠ .hold → t.charge = (arrive r s).charge) ∧
              (s.charge.stage = .hold → HoldWithoutEvac s t))) ∧
      (∀ x, s.bin.evacAt = some x → evacuating s = true →
        ∃ t, exec .evacTimeout s = .next t ∧
          OnlyChanges [.clock, .bin, .suction, .charge, .power, .ports] s t ∧
          t.clock = max s.clock x ∧ t.bin = ⟨s.bin.f, s.bin.fFull, .idle, none, .aborted, .timer⟩ ∧
          Raised .evacState s t ∧ (docked s = true → t.suction = s.suction) ∧
          (s.charge.stage ≠ .hold → t.charge = s.charge) ∧ (s.charge.stage = .hold → HoldWithoutEvac s t))

/-- R124, R125, R127, R130, R131, R133, R136, R169: a taken charge request holds the dock's capability, starts the charge hold and is
answered with the grants of the stage; in NEGOTIATING with no entry hold the stage is chosen; LINK leaves the causes, TEMP is judged in
the charging stages and in HOLD, and HOLD is left with the last cause. A resync is required, taken and answered as R136 has it; that
its grant computation comes last is DEDUCED (log entry 53), and that NEGOTIATING is left before TEMP is judged is the model's order
(log entries 26, 52); that a request sets the grants alone while no measurement set exists is the model's choice (log entry 62). `v`
is the current as the gate takes it, clamped where its policy is CLAMP. -/
def Obligations.ChargeRequestsAreTaken : Prop :=
  ∀ (r : Req) (cur v volt : Nat) (flag : Bool) (s : State), judged s (.chargeRequest r cur volt flag) = true → Settled s →
    GateTakes s 6 r cur v →
    (docked s = false →
      exec (.chargeRequest r cur volt flag) s = .next (answer r ⟨.state, .cause .notDocked, false⟩ (arrive r s))) ∧
      (docked s = true → s.charge.resyncRequired = true → flag = false →
        exec (.chargeRequest r cur volt flag) s = .next (answer r ⟨.state, .cause .resync, false⟩ (arrive r s))) ∧
      (docked s = true → s.charge.resyncRequired = false →
        ∃ t, exec (.chargeRequest r cur volt flag) s = .next t ∧ OnlyChanges [.charge, .ports] (arrive r s) t ∧
          t.charge.cap = some ⟨v, min volt 32000⟩ ∧ t.charge.holdAt = some (s.clock + 1000000) ∧
          t.charge.linkFlag = false ∧ t.charge.resyncRequired = false ∧
          AnsweredWith r ⟨if v ≠ cur ∨ 32000 < volt then .clamped else .ok,
            .chargeAnswer t.charge.stage (holdReason t) t.charge.curGrant t.charge.voltGrant false, false⟩ t ∧
          t.charge.curGrant =
            (if t.charge.stage = .precharge then min v 400
            else if t.charge.stage = .cc ∨ t.charge.stage = .cv then min v (t.charge.icc * t.charge.fCharge / 100)
            else if t.charge.stage = .topped then min v 300 else 0) ∧
          t.charge.voltGrant = (if t.charge.stage.charging = true then min (min volt 32000) 29400 else 0) ∧
          (∀ m, s.scan.latest = some m → t.charge.fCharge = lookup s.tables.chg m.tHot ∧
            t.charge.icc = (if 500 ≤ s.account.cycleCount then 3200 else 4000) ∧
            (s.charge.stage = .negotiating → motorStopped s = true → s.charge.scanWait = false →
              evacuating s = false →
              t.charge.stage =
                (if lookup s.tables.chg m.tHot = 0 then .hold else if m.vmin < 3000 then .precharge
                else if 4180 ≤ m.vmax then .cv else .cc))) ∧
          (s.charge.stage = .negotiating → motorStopped s = false ∨ s.charge.scanWait = true →
            t.charge.stage = .negotiating) ∧
          (s.charge.stage = .faulted → t.charge.stage = .faulted) ∧ t.charge.scanWait = s.charge.scanWait ∧
          t.charge.totalMs = s.charge.totalMs ∧ t.charge.preMs = s.charge.preMs ∧
          (∀ m f free, s.scan.latest = some m → f = lookup s.tables.chg m.tHot →
            free = (motorStopped s && !s.charge.scanWait) →
            (s.charge.stage.charging = true → t.charge.stage = (if f = 0 then .hold else s.charge.stage)) ∧
              (s.charge.stage = .hold →
                t.charge.stage =
                  (if evacuating s = true ∨
                      f = 0 ∧ (free = true ∨ s.charge.linkFlag = false ∨ s.charge.temp = true) then .hold
                  else if free = false then .negotiating else if m.vmin < 3000 then .precharge
                  else if 4180 ≤ m.vmax then .cv else .cc)) ∧
              (t.charge.stage = .hold → t.charge.temp = decide (f = 0)) ∧
              (t.charge.stage ≠ s.charge.stage → t.charge.stageMs = 0 ∧ Raised .chargeStage s t ∧
                (t.charge.stage ≠ .cv → t.charge.balance = [])))) ∧
      (docked s = true → s.charge.resyncRequired = true → flag = true →
        ∃ t, exec (.chargeRequest r cur volt flag) s = .next t ∧ OnlyChanges [.charge, .ports] (arrive r s) t ∧
          t.charge.cap = some ⟨v, min volt 32000⟩ ∧ t.charge.holdAt = some (s.clock + 1000000) ∧
          t.charge.resyncRequired = false ∧ t.charge.linkFlag = false ∧ t.charge.scanWait = true ∧
          t.charge.curGrant = 0 ∧ t.charge.voltGrant = 0 ∧ t.charge.balance = [] ∧
          t.charge.totalMs = s.charge.totalMs ∧ t.charge.preMs = s.charge.preMs ∧
          t.charge.stageMs = 0 ∧ t.charge.termRun = 0 ∧
          (∀ m f, s.scan.latest = some m → f = lookup s.tables.chg m.tHot →
            t.charge.fCharge = f ∧ t.charge.icc = (if 500 ≤ s.account.cycleCount then 3200 else 4000) ∧
              (t.charge.stage = .hold → t.charge.temp = decide (f = 0))) ∧
          t.charge.stage =
            (if s.charge.stage = .faulted then .faulted else if evacuating s = true then .hold else .negotiating) ∧
          AnsweredWith r ⟨if v ≠ cur ∨ 32000 < volt then .clamped else .ok,
            .chargeAnswer t.charge.stage (holdReason t) 0 0 false, false⟩ t)

/-- R134: at the expiry of the charge hold, PRECHARGE, CC and CV go to HOLD for LINK, with resync-required and the DOCK_LINK
condition; TOPPED goes to HOLD; HOLD takes LINK too; the other stages are left. R123..R131, R137, R138, R140: the session's work at a
completed scan while docked, in a scan that leaves no STOP_CHARGE holding: the scan wait and the timers, then the stage, the
balancing map and the grants; the two one-shots of the timers, which fault it; and the scan at which a STOP_CHARGE begins to hold,
whose time goes to the stage it found. R182: an entry into TOPPED with the rest timer at 60 s enters STANDBY at that step. Where
the clock moves to a deadline, that is the model's choice (log entry 2); that a derating of 0 is judged before the transition of
the stage is the model's order (log entry 52). That the timers run before the fault table is judged and the rest of the session's
work comes after it, so that at a scan at which a STOP_CHARGE begins the time is kept by the stage found, TEMP stands as it stood
and no transition (an entry into TOPPED) is made, is the model's order (log entry 12); that a CHARGE_STAGE raised at a check scan in
DORMANT joins the event sets is DEDUCED (log entry 22). -/
def Obligations.ChargeHoldExpires : Prop :=
  (∀ (x : Nat) (s : State), Settled s → s.charge.holdAt = some x →
    (s.charge.stage.filling = true → s.faults.entries.length = 18 → (entryAt s 11).enabled = true →
      ∃ t, exec .chargeHoldExpiry s = .next t ∧ OnlyChanges [.clock, .charge, .faults, .ports] s t ∧
        t.clock = max s.clock x ∧ t.charge.stage = .hold ∧ t.charge.linkFlag = true ∧
        t.charge.resyncRequired = true ∧ t.charge.holdAt = none ∧ t.charge.curGrant = 0 ∧ t.charge.voltGrant = 0 ∧
        t.charge.termRun = 0 ∧ t.charge.balance = [] ∧ t.charge.totalMs = s.charge.totalMs ∧
        t.charge.preMs = s.charge.preMs ∧ t.charge.cap = s.charge.cap ∧ Raised .chargeStage s t ∧
        (entryAt t 11).latched = true ∧ (entryAt t 11).present = false ∧ (entryAt t 11).lastValue = some 0 ∧
        (∀ n, n ≠ 11 → entryAt t n = entryAt s n) ∧ ((entryAt s 11).latched = false → Raised .faultLatched s t)) ∧
      (s.charge.stage = .topped →
        ∃ t, exec .chargeHoldExpiry s = .next t ∧ OnlyChanges [.clock, .charge, .ports] s t ∧
          t.charge.stage = .hold ∧ t.charge.linkFlag = true ∧ t.charge.resyncRequired = s.charge.resyncRequired ∧
          t.charge.holdAt = none ∧ t.charge.curGrant = 0 ∧ t.charge.voltGrant = 0 ∧ Raised .chargeStage s t) ∧
      (s.charge.stage = .hold →
        ∃ t, exec .chargeHoldExpiry s = .next t ∧ OnlyChanges [.clock, .charge, .ports] s t ∧
          t.charge = { s.charge with holdAt := none, linkFlag := true }) ∧
      (s.charge.stage = .undocked ∨ s.charge.stage = .negotiating ∨ s.charge.stage = .faulted →
        exec .chargeHoldExpiry s =
          .next ((s.setClock (max s.clock x)).setCharge { s.charge with holdAt := none }))) ∧
    ∀ (w at_ : Nat) (codes : PerChannel Nat) (s : State) (m : MeasurementSet), s.scan.inProgress = some at_ →
      m = measure (s.setClock (s.clock + w)) codes → docked s = true →
      ∃ t, exec (.scanComplete w codes) s = .next t ∧
        (∀ choice f termRun, holds t .stopCharge = false → f = lookup s.tables.chg m.tHot →
          choice = (if evacuating s = true ∨ s.charge.linkFlag = true ∨ f = 0 then ChargeStage.hold
            else if m.vmin < 3000 then .precharge else if 4180 ≤ m.vmax then .cv else .cc) →
          termRun = (if -m.value.packI < 200 ∧ 200 ≤ s.charge.curGrant ∧ 4150 ≤ m.vmax then
              min 30000 (s.charge.termRun + m.elapsed) else 0) →
          t.charge.scanWait = (s.charge.scanWait && !motorStopped t) ∧ t.charge.fCharge = f ∧
            t.charge.icc = (if 500 ≤ t.account.cycleCount then 3200 else 4000) ∧ t.charge.cap = s.charge.cap ∧
            t.charge.linkFlag = s.charge.linkFlag ∧ t.charge.holdAt = s.charge.holdAt ∧
            t.charge.resyncRequired = s.charge.resyncRequired ∧ t.charge.dockTier = s.charge.dockTier ∧
            t.charge.badFrames = s.charge.badFrames ∧
            (s.charge.stage = .negotiating →
              t.charge.stage =
                (if motorStopped t = true ∧ t.charge.scanWait = false ∧ s.charge.cap.isSome = true then choice
                else .negotiating)) ∧
            (s.charge.stage = .precharge →
              t.charge.stage =
                (if f = 0 then .hold else if 3100 ≤ m.vmin then (if 4180 ≤ m.vmax then .cv else .cc)
                else .precharge)) ∧
            (s.charge.stage = .cc →
              t.charge.stage = (if f = 0 then .hold else if 4180 ≤ m.vmax then .cv else .cc)) ∧
            (s.charge.stage = .cv →
              t.charge.stage = (if f = 0 then .hold else if 30000 ≤ termRun then .topped else .cv) ∧
                (t.charge.stage = .cv → t.charge.termRun = termRun) ∧
                (t.charge.stage = .topped → t.charge.totalMs = 0 ∧ t.charge.preMs = 0 ∧ SaveUnderway 39 t)) ∧
            (s.charge.stage = .topped →
              t.charge.stage =
                  (if f = 0 then .hold else if t.account.qRem * 100 / t.account.qFull ≤ 95 then .cc else .topped) ∧
                (t.charge.stage = .cc → s.power.mode = .standby →
                  t.power.mode = .active ∧ t.power.lastWake = .recharge ∧ t.power.activeSince = t.clock ∧
                    t.power.dwellSince = none ∧ t.scan.inProgress = some t.clock ∧ Raised .powerState s t)) ∧
            (s.charge.stage = .hold →
              t.charge.stage =
                (if choice = .hold then .hold
                else if motorStopped t = true ∧ t.charge.scanWait = false ∧ s.charge.cap.isSome = true then choice
                else .negotiating)) ∧
            (s.charge.stage = .faulted → t.charge.stage = .faulted) ∧
            (t.charge.stage = .hold → t.charge.temp = decide (f = 0)) ∧
            (t.charge.stage = .cv → s.charge.stage ≠ .cv → t.charge.termRun = 0) ∧
            (t.charge.stage ≠ s.charge.stage → t.charge.stageMs = 0 ∧ Raised .chargeStage s t ∧
              (t.charge.stage ≠ .cv → t.charge.stage ≠ .topped → t.charge.balance = [])) ∧
            (t.charge.stage = s.charge.stage → t.charge.stageMs = min 65535999 (s.charge.stageMs + m.elapsed)) ∧
            (t.charge.stage ≠ .topped ∨ s.charge.stage = .topped →
              t.charge.totalMs =
                  (if s.charge.stage.filling = true then min 65535999 (s.charge.totalMs + m.elapsed)
                  else s.charge.totalMs) ∧
                t.charge.preMs =
                  (if s.charge.stage = .precharge then min 65535999 (s.charge.preMs + m.elapsed)
                  else s.charge.preMs)) ∧
            (t.charge.stage = .cv ∨ t.charge.stage = .topped →
              ∀ k, k ∈ t.charge.balance ↔ m.tHot ≤ 50 ∧ (∀ b ∈ chanCells m.suspect, b = false) ∧ 1 ≤ k ∧
                ∃ u, (chanCells m.value)[k - 1]? = some u ∧
                  (if k ∈ s.charge.balance then 5 else 20) < u - m.vmin) ∧
            (s.charge.cap = none → t.charge.curGrant = 0 ∧ t.charge.voltGrant = 0) ∧
            (∀ cap, s.charge.cap = some cap →
              t.charge.curGrant =
                  (if t.charge.stage = .precharge then min cap.current 400
                  else if t.charge.stage = .cc ∨ t.charge.stage = .cv then
                    min cap.current (t.charge.icc * t.charge.fCharge / 100)
                  else if t.charge.stage = .topped then min cap.current 300 else 0) ∧
                t.charge.voltGrant = (if t.charge.stage.charging = true then min cap.voltage 29400 else 0))) ∧
        (∀ n spent, n = 13 ∧ s.charge.stage = .precharge ∧ spent = min 65535999 (s.charge.preMs + m.elapsed) ∧
            1800000 ≤ spent ∨
            n = 14 ∧ s.charge.stage.filling = true ∧ spent = min 65535999 (s.charge.totalMs + m.elapsed) ∧
              18000000 ≤ spent →
          s.faults.entries.length = 18 → (entryAt s n).enabled = true → holds s .stopCharge = false →
          entryAt t n = { entryAt s n with
              latched := true, present := false, lastValue := some ((spent / 1000 : Nat) : Int)
              latchSeq := if (entryAt s n).latched = true then (entryAt s n).latchSeq else some m.seq
              occurrences := min 255 ((entryAt s n).occurrences + 1) } ∧
            t.charge.stage = .faulted ∧ t.charge.curGrant = 0 ∧ t.charge.voltGrant = 0 ∧ t.charge.termRun = 0 ∧
            t.charge.balance = [] ∧ Raised .faultLatched s t ∧ Raised .chargeStage s t) ∧
        (holds s .stopCharge = false → holds t .stopCharge = true → s.charge.stage ≠ .faulted →
          t.charge.stage = .faulted ∧ t.charge.stageMs = 0 ∧
            t.charge.totalMs =
              (if s.charge.stage.filling = true then min 65535999 (s.charge.totalMs + m.elapsed)
              else s.charge.totalMs) ∧
            t.charge.preMs =
              (if s.charge.stage = .precharge then min 65535999 (s.charge.preMs + m.elapsed) else s.charge.preMs) ∧
            t.charge.curGrant = 0 ∧ t.charge.voltGrant = 0 ∧ t.charge.termRun = 0 ∧ t.charge.balance = [] ∧
            t.charge.temp = s.charge.temp ∧ t.charge.linkFlag = s.charge.linkFlag ∧ t.charge.cap = s.charge.cap ∧
            Raised .chargeStage s t) ∧
        (∀ x, s.charge.stage ≠ .topped → t.charge.stage = .topped → s.power.mode = .active → Settled s →
          s.power.restSince = some x → t.suction.state = s.suction.state →
          t.power.restSince = some x ∧ (s.clock + w < x + 60000000 → t.power.mode = .active) ∧
            (x + 60000000 ≤ s.clock + w → EnteredStandby s t))

/-! ### The dock rail, waking, power (07, 11) -/

/-- R120, R121, R122, R138, R180, R182, R184, R186: a dock detect opens a session, ends a demand DOCKED and wakes the part; an undock
closes the session and any exchange and relocks the store, in DORMANT too (R143), and with the rest timer at 60 s enters STANDBY at
that step; HEAD_DET and WAKE_N wake from DORMANT, and SHELF
ignores them. That HEAD_DET_WAKE changes nothing in ACTIVE and STANDBY is the model's choice (log entry 3), and that events raised in
DORMANT join the event sets is DEDUCED (log entry 22). -/
def Obligations.DockAndWakeLines : Prop :=
  ∀ s : State, Settled s →
    (∀ strap, s.charge.stage = .undocked →
      ∃ t, exec (.dockDetect strap) s = .next t ∧
        t.charge.stage = (if holds s .stopCharge = true then .faulted else .negotiating) ∧
        t.charge.curGrant = 0 ∧ t.charge.voltGrant = 0 ∧ t.charge.cap = none ∧ t.charge.totalMs = 0 ∧
        t.charge.preMs = 0 ∧ t.charge.stageMs = 0 ∧ t.charge.holdAt = none ∧ t.charge.scanWait = true ∧
        t.charge.badFrames = 0 ∧ t.charge.resyncRequired = false ∧
        t.charge.dockTier = (if strap = true then 0 else 1) ∧ t.charge.fCharge = s.charge.fCharge ∧
        t.charge.icc = (if 500 ≤ s.account.cycleCount then 3200 else 4000) ∧
        t.suction.state = (if s.suction.state = .tripped then .tripped else .inhibited) ∧
        (men s = true → t.suction.demand = none ∧ men t = false ∧ t.suction.pSet = 0) ∧
        (∀ d, s.suction.demand = some d → men s = true → t.suction.lastEnd = .docked ∧ Raised .demandEnded s t) ∧
        headPwr t = false ∧ t.head.grant = 0 ∧ t.power.sleepDue = none ∧ t.bin = s.bin ∧ t.account = s.account ∧
        t.store = s.store ∧ t.tables = s.tables ∧ Raised .chargeStage s t ∧
        (s.power.mode ≠ .active → EnteredActive .dock s t) ∧
        (s.power.mode = .active →
          t.power.mode = .active ∧ OnlyChanges [.charge, .suction, .dirt, .head, .power, .ports] s t)) ∧
      (docked s = true →
        ∃ t, exec .undock s = .next t ∧
          t.charge = { s.charge with
            stage := .undocked, temp := false, curGrant := 0, voltGrant := 0, cap := none, termRun := 0,
            holdAt := none, badFrames := 0, resyncRequired := false, linkFlag := false, scanWait := false,
            balance := [], dockTier := 1, fCharge := 0 } ∧
          t.store = { s.store with locked := true } ∧
          t.bin = (if evacuating s = true then ⟨s.bin.f, s.bin.fFull, .idle, none, .aborted, .undocked⟩ else s.bin) ∧
          (evacuating s = true → Raised .evacState s t) ∧
          t.suction.state =
            (if s.suction.state = .inhibited ∧ s.suction.stop = false then
              (if 2000 ≤ s.suction.speed then .coast else .off)
            else s.suction.state) ∧
          t.suction.demand = s.suction.demand ∧ t.faults = s.faults ∧ t.account = s.account ∧
          Raised .chargeStage s t ∧
          (s.power.mode = .standby → t.power.mode = .standby ∧ t.power.dwellSince = some s.clock) ∧
          (s.power.mode = .active →
            ((s.power.restSince = none ∨ ∃ x, s.power.restSince = some x ∧ s.clock < x + 60000000) →
              t.power.mode = .active) ∧
              (∀ x, s.power.restSince = some x → x + 60000000 ≤ s.clock →
                t.power.restSince = some x ∧ EnteredStandby s t)) ∧
          (asleep s = true →
            OnlyChanges [.charge, .store, .bin, .suction, .power, .ports] s t ∧
              { t.power with restSince := s.power.restSince } = s.power)) ∧
      (s.power.mode = .dormant →
        (∀ level, level ≠ s.power.headSample →
          ∃ t, exec (.headDetWake level) s = .next t ∧ EnteredActive .head s t ∧
            OnlyChanges [.power, .scan, .budget, .faults, .head, .ports] s t) ∧
          (∃ t, exec .wakeN s = .next t ∧ EnteredActive .wake s t ∧
            OnlyChanges [.power, .scan, .budget, .faults, .head, .ports] s t)) ∧
      (s.power.mode = .shelf → exec .wakeN s = .next s ∧ ∀ level, exec (.headDetWake level) s = .next s) ∧
      (asleep s = false →
        exec .wakeN s =
            .next (if s.power.sleepDue.isSome = true then
              s.setPower { s.power with sleepDue := none, lastSleepEnd := .cancelled } else s) ∧
          ∀ level, exec (.headDetWake level) s = .next s)

/-- R26, R182, R183, R184, R185, R186: the settling interval ends; rest of 60 s gives STANDBY; 15 min of STANDBY undocked
gives DORMANT; a SLEEP is refused while suction works or a charge runs, or falls due and enters DORMANT; the shelf test at a
completed scan counts to 1000 ms, or qualifies on its own in DORMANT, and the part enters SHELF. Where the clock moves to a deadline,
that is the model's choice (log entry 2); that the ms to the due moment are whole ones, rounded down, is DEDUCED (log entry 32). -/
def Obligations.PowerTimersAndSleep : Prop :=
  ∀ s : State, Settled s →
    (∀ x, s.power.settlingUntil = some x →
      exec .settlingEnd s =
        .next ((s.setClock (max s.clock x)).setPower { s.power with settlingUntil := none })) ∧
      (∀ x, s.power.restSince = some x → s.power.mode = .active → s.charge.stage = .undocked ∨ s.charge.stage = .topped →
        ∃ t, exec .standbyEntry s = .next t ∧ OnlyChanges [.clock, .power, .scan, .budget, .head, .ports] s t ∧
          t.clock = max s.clock (x + 60000000) ∧ t.power.mode = .standby ∧ t.power.dwellSince = some t.clock ∧
          t.scan = { s.scan with nextStart := some (s.scan.lastStart + 250000) } ∧
          t.budget = { s.budget with
            record := { s.budget.record with s := 0, b := 0, limited := false, short := false } } ∧
          t.head = { s.head with grant := 0 } ∧ EnteredStandby s t) ∧
      (∀ x headDet, s.power.dwellSince = some x → s.power.mode = .standby → docked s = false →
        ∃ t, exec (.dwellExpiry headDet) s = .next t ∧ t.clock = max s.clock (x + 900000000) ∧
          EnteredDormant headDet s t) ∧
      (∀ x headDet, s.power.sleepDue = some x → asleep s = false →
        (atRest s = false ∨ s.charge.stage.filling = true →
          exec (.sleepDue headDet) s =
            .next ((s.setClock (max s.clock x)).setPower
              { s.power with sleepDue := none, lastSleepEnd := .refusedAtDue })) ∧
          (atRest s = true → s.charge.stage.filling = false →
            ∃ t, exec (.sleepDue headDet) s = .next t ∧ t.clock = max s.clock x ∧ t.power.lastSleepEnd = .entered ∧
              EnteredDormant headDet s t)) ∧
      (∀ r, judged s (.sleep r) = true → gateOpen s 3 r 0 = true →
        (atRest s = false →
          exec (.sleep r) s = .next (answer r ⟨.state, .cause .suction, false⟩ (arrive r s))) ∧
          (atRest s = true → s.charge.stage.filling = true →
            exec (.sleep r) s = .next (answer r ⟨.state, .cause .charging, false⟩ (arrive r s))) ∧
          (atRest s = true → s.charge.stage.filling = false →
            (∀ x, s.power.sleepDue = some x →
              exec (.sleep r) s = .next (answer r (okReply (.dueIn ((x - s.clock) / 1000))) (arrive r s))) ∧
              (∀ x, s.power.sleepDue = none →
                x = (if s.power.mode = .standby then s.clock + 10000
                  else max (s.clock + 10000) (s.power.activeSince + 5000000)) →
                exec (.sleep r) s =
                  .next (answer r (okReply (.dueIn ((x - s.clock) / 1000)))
                    ((arrive r s).setPower { s.power with sleepDue := some x }))))) ∧
      (∀ (w at_ : Nat) (codes : PerChannel Nat) (m : MeasurementSet) (a : Nat), s.scan.inProgress = some at_ →
        s.power.mode ≠ .shelf → m = measure (s.setClock (s.clock + w)) codes →
        a = (match s.power.shelfCount with | none => 0 | some b => min 65535 (b + m.elapsed)) →
        ∃ t, exec (.scanComplete w codes) s = .next t ∧
          (docked s = true ∨ 2800 ≤ m.vmin ∨ anyCell m.suspect = true →
            t.power.shelfCount = none ∧ t.power.mode ≠ .shelf) ∧
          (docked s = false → m.vmin < 2800 → anyCell m.suspect = false → s.power.mode ≠ .dormant → a < 1000 →
            t.power.shelfCount = some a ∧ t.power.mode = s.power.mode) ∧
          (docked s = false → m.vmin < 2800 → anyCell m.suspect = false → s.power.mode = .dormant ∨ 1000 ≤ a →
            t.power.mode = .shelf ∧ t.power.shelfCount = none ∧ t.power.settlingUntil = none ∧
              t.power.sleepDue = none ∧ t.power.dwellSince = none ∧ t.scan.inProgress = none ∧
              t.scan.nextStart = none ∧ t.suction.demand = none ∧ men t = false ∧ t.suction.speed = 0 ∧
              t.suction.state =
                (if holds t .tripSuction = true then .tripped else if inhibited s = true then .inhibited else .off) ∧
              t.head = clearHead t.clock ∧ t.dirt.ring = [] ∧ t.dirt.cursors = ⟨.invalid, .invalid, .invalid⟩ ∧
              t.dirt.economy = false ∧ t.dirt.seq = s.dirt.seq ∧ t.budget.record.s = 0 ∧ t.budget.record.b = 0 ∧
              t.budget.record.limited = false ∧ t.budget.record.short = false ∧ t.account.emptyRun = 0 ∧
              t.bin = s.bin ∧ t.charge = s.charge ∧ t.ports.gates = s.ports.gates ∧
              (∀ p : Port, (engineOf t p).inProcess = none ∧ (engineOf t p).waiting = [] ∧
                (engineOf t p).sending = none ∧ (engineOf t p).events = [] ∧
                (engineOf t p).subscription = (engineOf s p).subscription) ∧
              SaveUnderway 39 t ∧ SaveUnderway 40 t))

/-! ### Scans (01, 02, 08) -/

/-- R1..R5: a scan starts on its schedule, and its completion publishes the measurement set: fourteen corrected and clamped
values, the derived values, the suspect set and the elapsed time. Where the clock moves to a deadline, that is the model's
choice (log entry 2), and so is a SCAN_COMPLETE with no scan in progress that changes nothing (log entry 3). -/
def Obligations.ScansMeasureEveryChannel : Prop :=
  ∀ (w : Nat) (codes : PerChannel Nat) (s : State),
    (∀ x, s.scan.nextStart = some x → s.scan.inProgress = none →
      exec .scanStart s =
        .next ((s.setClock (max s.clock x)).setScan { s.scan with
          inProgress := some (max s.clock x), lastStart := max s.clock x,
          nextStart :=
            match s.power.mode with
            | .active => some (max s.clock x + 10000)
            | .standby => some (max s.clock x + 250000)
            | .dormant => some (max s.clock x + 60000000)
            | .shelf => none })) ∧
      (s.scan.inProgress = none → exec (.scanComplete w codes) s = .next s) ∧
      (∀ x, s.scan.inProgress = some x →
        ∃ t m, exec (.scanComplete w codes) s = .next t ∧ t.clock = s.clock + w ∧ t.pending = s.pending ∧
          t.tables = s.tables ∧ t.scan.cal = s.scan.cal ∧ t.scan.latest = some m ∧ t.scan.seq = m.seq ∧
          m.seq = (s.scan.seq + 1) % 4294967296 ∧ t.scan.lastDone = t.clock ∧ t.scan.firstScan = false ∧
          t.scan.afterShelf = false ∧
          (∀ (k raw : Nat) (pair : CalPair) (b : Int × Int), (chanList codes)[k]? = some raw →
            (chanList s.scan.cal)[k]? = some pair →
            ([(0, 5000), (0, 5000), (0, 5000), (0, 5000), (0, 5000), (0, 5000), (0, 5000), (-40000, 40000), (0, 40000),
              (0, 5000), (-40, 125), (-40, 125), (-40, 125), (0, 40000)] : List (Int × Int))[k]? = some b →
            (chanList m.value)[k]? =
                some (max b.1 (min (((raw * pair.gain / 32768 : Nat) : Int) + pair.offset) b.2)) ∧
              (chanList m.suspect)[k]? = some (raw == 0 || raw == 4095)) ∧
          m.vmin ∈ chanCells m.value ∧ (∀ v ∈ chanCells m.value, m.vmin ≤ v) ∧
          m.vmax ∈ chanCells m.value ∧ (∀ v ∈ chanCells m.value, v ≤ m.vmax) ∧
          m.packV = (chanCells m.value).sum ∧ m.tHot = max m.value.tempA m.value.tempB ∧
          m.elapsed =
            (if s.scan.firstScan = true ∨ s.scan.afterShelf = true then 0
            else min 65535 ((s.clock + w - s.scan.lastDone) / 1000)) ∧
          t.account.lastSeq = m.seq)

/-- R3, R5, R63, R80, R81, R139, R144, R146, R148, R150, R151: at a completed scan the third suspect scan in a row puts a channel
in the sensing-fault list, and the third clean one in a row takes it out; the scan then judges every channel of the fault table
that is no one-shot, and the supervisor records its sequence. That the table is judged before the budget and the charge controller
work on the scan, so that the overcurrent filter of SPIN_UP, the setpoint, the speed and the grants are read as they stood before
it, is the model's order (log entry 12); that a latch at a scan in DORMANT joins the event sets is DEDUCED (log entry 22); that
the last value of channel 12 has no bound is the model's choice (log entry 55). -/
def Obligations.ScansJudgeTheFaultTable : Prop :=
  ∀ (w at_ : Nat) (codes : PerChannel Nat) (s : State), s.scan.inProgress = some at_ → s.faults.entries.length = 18 →
    ∃ t m, exec (.scanComplete w codes) s = .next t ∧ t.scan.latest = some m ∧
      (∀ (k : Nat) (suspect sensing sensing' : Bool) (bad bad' clean clean' : Nat),
        (chanList m.suspect)[k]? = some suspect → (chanList s.scan.sensing)[k]? = some sensing →
        (chanList s.scan.suspectRun)[k]? = some bad → (chanList s.scan.cleanRun)[k]? = some clean →
        (chanList t.scan.sensing)[k]? = some sensing' → (chanList t.scan.suspectRun)[k]? = some bad' →
        (chanList t.scan.cleanRun)[k]? = some clean' →
        (suspect = true →
          bad' = min 3 (bad + 1) ∧ clean' = 0 ∧ (sensing' = true ↔ sensing = true ∨ 3 ≤ bad + 1)) ∧
          (suspect = false →
            (sensing' = true ↔ sensing = true ∧ clean + 1 < 3) ∧ bad' = (if sensing' = true then bad else 0) ∧
              clean' = (if sensing = true ∧ sensing' = false then 0 else min 3 (clean + 1)))) ∧
      entryAt t 0 = judgeEntry ⟨4250 < m.vmax, m.vmax < 4150, 50, m.vmax⟩ m.elapsed m.seq (entryAt s 0) ∧
      entryAt t 1 = judgeEntry ⟨m.vmin < 2900, 3000 ≤ m.vmin, 500, m.vmin⟩ m.elapsed m.seq (entryAt s 1) ∧
      entryAt t 2 =
        judgeEntry ⟨35000 < m.value.packI, !decide (35000 < m.value.packI),
          if s.suction.state = .spinUp then 400 else 20, m.value.packI⟩ m.elapsed m.seq (entryAt s 2) ∧
      (∀ (cur : Int) (set : Bool), cur = (if m.value.packI < 0 then -m.value.packI else 0) →
        set = (docked s && decide ((s.charge.curGrant : Int) + 500 < cur)) →
        entryAt t 3 = judgeEntry ⟨set, !set, 200, cur⟩ m.elapsed m.seq (entryAt s 3)) ∧
      entryAt t 4 = judgeEntry ⟨60 < m.tHot, m.tHot < 55, 1000, m.tHot⟩ m.elapsed m.seq (entryAt s 4) ∧
      entryAt t 5 =
        judgeEntry ⟨100 < m.value.tempStage, m.value.tempStage < 85, 500, m.value.tempStage⟩ m.elapsed m.seq
          (entryAt s 5) ∧
      entryAt t 7 =
        judgeEntry ⟨30000 < m.value.motorI, !decide (30000 < m.value.motorI),
          if s.suction.state = .spinUp then 400 else 20, m.value.motorI⟩ m.elapsed m.seq (entryAt s 7) ∧
      (∀ set : Bool,
        set = (s.suction.state == .run && decide (110000 ≤ s.suction.speed) && decide (100 ≤ s.suction.pSet)) →
        entryAt t 8 = judgeEntry ⟨set, !set, 1000, s.suction.speed⟩ m.elapsed m.seq (entryAt s 8)) ∧
      (∀ (p : Int) (set : Bool), p = m.value.brushI * m.packV / 1000000 → set = decide ((s.head.grant : Int) + 10 < p) →
        entryAt t 9 = judgeEntry ⟨set, !set, 100, p⟩ m.elapsed m.seq (entryAt s 9)) ∧
      (∀ (silence : Nat) (set : Bool),
        silence = (if asleep s = true then 0 else min 65535 ((t.clock - s.head.silentSince) / 1000)) →
        set = (s.power.mode == .active && s.head.announced && !s.head.frameSeen) →
        entryAt t 10 = judgeEntry ⟨set, !set, 500, silence⟩ m.elapsed m.seq (entryAt s 10)) ∧
      t.head.frameSeen = false ∧ t.faults.lastSeq = m.seq ∧
      (∀ (silence : Nat) (set : Bool),
        silence = ((match s.power.handleStop with | none => t.clock | some x => x) - s.faults.handleSince) / 1000 →
        set = (s.power.mode == .active && decide (2000 ≤ silence)) →
        entryAt t 12 = judgeEntry ⟨set, !set, 0, silence⟩ m.elapsed m.seq (entryAt s 12)) ∧
      entryAt t 15 =
        judgeEntry ⟨300 < m.vmax - m.vmin, m.vmax - m.vmin < 200, 5000, m.vmax - m.vmin⟩ m.elapsed m.seq
          (entryAt s 15) ∧
      (∀ (l : List Nat) (e : FaultEntry), l = channelSet t.scan.sensing →
        e = judgeEntry ⟨!l.isEmpty, l.isEmpty, 0, ((l.headD 0 : Nat) : Int)⟩ m.elapsed m.seq (entryAt s 16) →
        entryAt t 16 =
          (if e.latched = true ∧ ∃ k ∈ l, k ≤ 8 then { e with wide := true } else e)) ∧
      entryAt t 6 = entryAt s 6 ∧ entryAt t 11 = entryAt s 11 ∧ entryAt t 17 = entryAt s 17 ∧
      (∀ n, n ≤ 17 → (entryAt s n).latched = false → (entryAt t n).latched = true → Raised .faultLatched s t ∨
        t.power.mode = .shelf) ∧
      ∀ e x, e.latched = true → e.present = true → e.enabled = true → x.retire = false →
        judgeEntry x m.elapsed m.seq e = e

/-- R145: the filter of a scan-judged entry, and the count it makes over consecutive scans from the first of them. R147, R148: the
latch scan sequence is written at the latch and kept at a re-qualification; a latched entry stays present until its retire test
holds. R156: a disabled entry is left as it stands. -/
def Obligations.FaultFilterCounts : Prop :=
  ∀ (x : Test) (elapsed seq : Nat) (e : FaultEntry), x.filter ≤ 65535 →
    (e.enabled = false → judgeEntry x elapsed seq e = e) ∧
      (e.enabled = true → e.latched = true → e.present = true →
        (x.retire = false → judgeEntry x elapsed seq e = e) ∧
          (x.retire = true → x.set = false → judgeEntry x elapsed seq e = { e with present := false, acc := none })) ∧
      (e.enabled = true → e.latched = false ∨ e.present = false →
        (x.set = false → judgeEntry x elapsed seq e = { e with acc := none }) ∧
          (∀ a, x.set = true → a = (match e.acc with | none => 0 | some b => min 65535 (b + elapsed)) →
            (a < x.filter → judgeEntry x elapsed seq e = { e with acc := some a }) ∧
              (x.filter ≤ a →
                judgeEntry x elapsed seq e = { e with
                  acc := none, latched := true, present := true, lastValue := some x.value
                  latchSeq := if e.latched = true then e.latchSeq else some seq
                  occurrences := min 255 (e.occurrences + 1) }))) ∧
      (e.enabled = true → e.latched = false → e.acc = none → x.set = true → ∀ n,
        (n * elapsed < x.filter → (times (judgeEntry x elapsed seq) (n + 1) e).latched = false ∧
          (times (judgeEntry x elapsed seq) (n + 1) e).acc = some (n * elapsed)) ∧
          (x.filter ≤ n * elapsed → (times (judgeEntry x elapsed seq) (n + 1) e).latched = true))

/-- R7, R8, R9, R10, R11, R12, R13, R14, R21: the account's work on a scan. Charge is counted with the residue kept, and with it the
learn total and the cycles; the first scan after power-on estimates from the OCV table; a suspect current counts nothing; a second of
charge current cancels a learn run; five empty scans in a row empty the account and take the learning step; the entry into TOPPED
takes the full sync. That no bound holds the charge-cancel accumulator is the model's choice (log entry 45), how it stands at the first
scan after SHELF is DEDUCED (log entry 41), and so is the order of this work inside one scan (log entry 38). -/
def Obligations.AccountCountsEachScan : Prop :=
  ∀ (w at_ : Nat) (codes : PerChannel Nat) (s : State) (m : MeasurementSet), s.scan.inProgress = some at_ →
    m = measure (s.setClock (s.clock + w)) codes → AccountLaw s →
    ∃ t, exec (.scanComplete w codes) s = .next t ∧
      (∀ (first shelf counted : Bool) (total : Int) (d c : Nat),
        s.charge.stage = .topped ∨ t.charge.stage ≠ .topped → first = s.scan.firstScan →
        shelf = (!first && s.scan.afterShelf) → counted = (!first && !shelf && !m.suspect.packI) →
        total = s.account.residue + m.value.packI * m.elapsed →
        d = (if counted = true then (total / 3600000).toNat else 0) →
        c = (if counted = true then (-total / 3600000).toNat else 0) →
        (s.account.emptyRun < 4 ∨ ¬(m.vmin ≤ s.budget.vFloor ∧ 1000 ≤ m.value.packI) →
          (first = true →
            t.account.qRem = s.account.qFull * lookup s.tables.ocv (m.packV / 7) / 100 ∧ t.account.residue = 0 ∧
              t.account.estimated = true) ∧
            (shelf = true →
              t.account.qRem = s.account.qRem ∧ t.account.residue = s.account.residue ∧ t.account.estimated = true ∧
                t.account.learnActive = false ∧ t.account.learnTotal = 0 ∧
                t.account.chargeCancel =
                  (if s.account.learnActive = false ∧ 100 < -m.value.packI ∧ m.suspect.packI = false ∧
                    s.charge.stage ≠ .topped then s.account.chargeCancel
                  else 0)) ∧
            (first = false → shelf = false → m.suspect.packI = true →
              t.account.qRem = s.account.qRem ∧ t.account.residue = s.account.residue ∧
                t.account.estimated = true) ∧
            (counted = true →
              (0 ≤ total → t.account.qRem = s.account.qRem - d ∧ t.account.residue = total % 3600000) ∧
                (total < 0 → t.account.qRem = min s.account.qFull (s.account.qRem + c) ∧
                  t.account.residue = -(-total % 3600000)) ∧
                t.account.estimated = s.account.estimated) ∧
            t.account.qFull = s.account.qFull ∧
            t.account.cycleAcc = (s.account.cycleAcc + d) % s.account.qFull ∧
            t.account.cycleCount = min 65535 (s.account.cycleCount + (s.account.cycleAcc + d) / s.account.qFull) ∧
            (shelf = false → ∀ n,
              n = (if 100 < -m.value.packI ∧ m.suspect.packI = false ∧ s.charge.stage ≠ .topped then
                s.account.chargeCancel + m.elapsed else 0) →
              (1000 ≤ n → s.account.learnActive = true →
                t.account.chargeCancel = 0 ∧ t.account.learnActive = false ∧ t.account.learnTotal = 0) ∧
                (n < 1000 ∨ s.account.learnActive = false →
                  t.account.chargeCancel = n ∧ t.account.learnActive = s.account.learnActive ∧
                    t.account.learnTotal =
                      (if s.account.learnActive = true then min 65535 (s.account.learnTotal + d) - c
                      else s.account.learnTotal)))) ∧
          (s.account.emptyRun = 4 → shelf = false → m.vmin ≤ s.budget.vFloor → 1000 ≤ m.value.packI →
            anyCell m.suspect = false → m.suspect.packI = false →
            t.account.qRem = 0 ∧ t.account.residue = 0 ∧ t.account.estimated = false ∧ t.account.emptyRun = 0 ∧
              t.account.learnActive = false ∧ t.account.chargeCancel = 0 ∧
              (s.account.learnActive = false → t.account.qFull = s.account.qFull ∧
                t.account.cycleAcc = (s.account.cycleAcc + d) % s.account.qFull) ∧
              (s.account.learnActive = true → ∀ k lo hi,
                k = min 65535 (s.account.learnTotal + d) → lo = s.account.qFull * 90 / 100 →
                hi = s.account.qFull * 110 / 100 →
                t.account.qFull = max 1000 (min 6000 (max lo (min hi k))) ∧ t.account.learnTotal = 0 ∧
                  t.account.cycleAcc = (s.account.cycleAcc + d) % s.account.qFull % t.account.qFull ∧
                  t.account.cycleCount =
                    min 65535 (s.account.cycleCount + (s.account.cycleAcc + d) / s.account.qFull +
                      (s.account.cycleAcc + d) % s.account.qFull / t.account.qFull) ∧
                  SaveUnderway 38 t)) ∧
          (¬(m.vmin ≤ s.budget.vFloor ∧ 1000 ≤ m.value.packI ∧ anyCell m.suspect = false ∧ m.suspect.packI = false) →
            t.account.emptyRun = 0) ∧
          (m.vmin ≤ s.budget.vFloor → 1000 ≤ m.value.packI → anyCell m.suspect = false → m.suspect.packI = false →
            shelf = false → s.account.emptyRun < 4 → t.power.mode ≠ .shelf →
            t.account.emptyRun = s.account.emptyRun + 1)) ∧
      (s.charge.stage ≠ .topped → t.charge.stage = .topped →
        t.account.qRem = t.account.qFull ∧ t.account.residue = 0 ∧ t.account.estimated = false ∧
          t.account.learnActive = true ∧ t.account.learnTotal = 0)

/-- R18: the lookup on a list that rises strictly: the ends beyond the list, a point's own percentage at it, and the floor of the
straight line between two neighbours; within 0..100 for percentages of at most 100. -/
def Obligations.LookupsInterpolate : Prop :=
  ∀ (l : List Point) (x : Int), l ≠ [] → (l.zip l.tail).all (fun q => decide (q.1.x < q.2.x)) = true →
    (∀ a, l.head? = some a → x < a.x → lookup l x = a.p) ∧ (∀ a, l.getLast? = some a → a.x < x → lookup l x = a.p) ∧
      (∀ a ∈ l, x = a.x → lookup l x = a.p) ∧
      (∀ a b, (a, b) ∈ l.zip l.tail → a.x < x → x < b.x →
        (lookup l x : Int) = a.p + ((b.p : Int) - a.p) * (x - a.x) / (b.x - a.x) ∧
          min a.p b.p ≤ lookup l x ∧ lookup l x ≤ max a.p b.p) ∧
      ((∀ a ∈ l, a.p ≤ 100) → lookup l x ≤ 100)

/-- R24, R25, R29..R37, R38, R40, R41, R60, R77: the budget evaluation of an ACTIVE scan that stays in ACTIVE, in the record it leaves,
and the setpoint, the brush grant and the event that follow it; R26: the runtime refresh of a STANDBY scan. That the actions which
latch at the scan hold in its evaluation already is the model's order (log entry 12), that a demand that follows another between two
limited evaluations raises no event is the model's choice (log entry 47), and that a scan begun in ACTIVE refreshes the runtime when it
completes in STANDBY is too (log entry 48). -/
def Obligations.BudgetFollowsTheScan : Prop :=
  (∀ (w at_ : Nat) (codes : PerChannel Nat) (s t : State) (m : MeasurementSet), s.power.mode = .active →
    s.scan.inProgress = some at_ → exec (.scanComplete w codes) s = .next t → t.power.mode = .active →
    t.scan.latest = some m → SuctionLaw s →
    t.budget.record.scanSeq = m.seq ∧ t.budget.record.fTemp = lookup s.tables.dis m.tHot ∧
      t.budget.record.fVolt =
        (if (s.budget.vKnee : Int) ≤ m.vmin then 100 else if m.vmin ≤ s.budget.vFloor then 0
        else ((m.vmin - s.budget.vFloor) * 100 / ((s.budget.vKnee : Int) - s.budget.vFloor)).toNat) ∧
      t.budget.record.pAllow = s.budget.pBase * t.budget.record.fTemp * t.budget.record.fVolt / 10000 ∧
      t.budget.record.pAvail = t.budget.record.pAllow - 6 ∧
      t.budget.record.s + t.budget.record.b ≤ t.budget.record.pAvail ∧
      t.budget.pBase = s.budget.pBase ∧ t.budget.vKnee = s.budget.vKnee ∧ t.budget.vFloor = s.budget.vFloor ∧
      t.budget.record.demand = (s.suction.demand.isSome && !holds t .tripSuction) ∧
      (t.budget.record.demand = false → t.budget.record.s = 0 ∧ t.budget.record.limited = false) ∧
      t.budget.record.b =
        (if s.head.attached = true ∧ s.head.announced = true ∧ s.head.type ≠ .none ∧ docked s = false ∧
            holds t .tripBrush = false then
          min s.head.claim (min s.head.type.cap (t.budget.record.pAvail - t.budget.record.sFloor))
        else 0) ∧
      t.head.grant = t.budget.record.b ∧ t.budget.record.runtimeSeq = m.seq ∧
      (t.budget.record.limited = true → s.budget.record.limited = false → Raised .budgetLimited s t) ∧
      (t.budget.record.limited = false ∨ s.budget.record.limited = true →
        ∀ p, .budgetLimited ∈ (engineOf t p).events → .budgetLimited ∈ (engineOf s p).events) ∧
      ((activeProfile s).present = true → ∀ c, c = (activeProfile s).body →
        (∀ (boost : Bool) (level : Nat) (bias raw : Int),
          boost = (t.budget.record.demand && (s.suction.demand.bind Demand.boostAt).isSome) →
          level = (if s.suction.state = .run ∧ holds t .tripSuction = true then 0 else s.dirt.level) →
          bias = (if c.auto = true then
            c.bias.getD (match s.head.floor with | .hard => 0 | .lowPile => 1 | .highPile => 2 | .unknown => 3) 0
            else 0) →
          raw = (if boost = true then (c.top : Int) else if c.auto = true then c.base + level * c.step + bias
            else c.base) →
          (t.budget.record.sTarget : Int) = max (c.sMin : Int) (min raw c.top) ∧
            (t.charge.stage ≠ .topped ∨ s.charge.stage = .topped → ∀ g : Nat,
              (t.budget.record.demand = true → t.budget.record.short = false →
                g = t.budget.record.s + t.budget.record.b + 6) →
              (t.budget.record.demand = false ∨ t.budget.record.short = true →
                (g : Int) = max (c.sMin : Int) (min (c.base + bias) c.top) + 6) →
              t.budget.record.runtime =
                min 999 (t.account.qRem * m.packV.toNat / 1000 * 60 / (g * 1000)))) ∧
          t.budget.record.short = decide (t.budget.record.pAvail < c.sMin) ∧
          t.budget.record.sFloor =
            (if t.budget.record.demand = true then min c.sMin t.budget.record.pAvail else 0) ∧
          (t.budget.record.demand = true → t.budget.record.short = true →
            t.budget.record.s = 0 ∧ t.budget.record.limited = false ∧ t.suction.demand = none ∧
              t.suction.lastEnd = .noBudget ∧ men t = false ∧ Raised .demandEnded s t) ∧
          (t.budget.record.demand = true → t.budget.record.short = false →
            t.budget.record.s =
                (if holds t .limitSuction = true then
                  min (min t.budget.record.sTarget (t.budget.record.pAvail - t.budget.record.b)) c.sMin
                else min t.budget.record.sTarget (t.budget.record.pAvail - t.budget.record.b)) ∧
              t.budget.record.limited =
                decide (t.budget.record.pAvail - t.budget.record.b < t.budget.record.sTarget) ∧
              (men t = true →
                t.suction.pSet =
                  (if s.suction.pSet < t.budget.record.s then min t.budget.record.s (s.suction.pSet + c.ramp)
                  else t.budget.record.s)))) ∧
      ((activeProfile s).present = false →
        t.budget.record.s = 0 ∧ t.budget.record.sTarget = 0 ∧ t.budget.record.sFloor = 0 ∧
          t.budget.record.runtime = 0 ∧ t.budget.record.limited = false ∧ t.budget.record.short = false ∧
          t.suction.demand = none)) ∧
    ∀ (w at_ : Nat) (codes : PerChannel Nat) (s : State), s.power.mode = .standby → s.scan.inProgress = some at_ →
      ∃ t m, exec (.scanComplete w codes) s = .next t ∧ t.scan.latest = some m ∧
        (t.power.mode = .standby →
          t.budget = { s.budget with
            record := { s.budget.record with runtime := t.budget.record.runtime, runtimeSeq := m.seq } } ∧
            ((activeProfile s).present = false → t.budget.record.runtime = 0) ∧
            ((activeProfile s).present = true → t.charge.stage ≠ .topped ∨ s.charge.stage = .topped →
              ∀ (c : ProfileContents) (bias : Int) (g : Nat), c = (activeProfile s).body →
                bias = (if c.auto = true then
                  c.bias.getD (match s.head.floor with | .hard => 0 | .lowPile => 1 | .highPile => 2 | .unknown => 3) 0
                  else 0) →
                (g : Int) = max (c.sMin : Int) (min (c.base + bias) c.top) + 6 →
                t.budget.record.runtime =
                  min 999 (t.account.qRem * m.packV.toNat / 1000 * 60 / (g * 1000))))

/-! ### What every step keeps -/

/-- Chapters 03, 07 (R53, R59, R125, R130..R132, R138): what inhibits, trips and charges, kept by every step; MEN and MSET are 0 while
docked or in an exchange. -/
def Obligations.SuctionAndChargeLawsAreKept : Prop :=
  ∀ s t : State, SuctionLaw s → ChargeLaw s → step s = .next t → SuctionLaw t ∧ ChargeLaw t ∧ MotorLaw t

/-- Chapters 02, 03 (R26, R27, R36, R60): the law of the budget and the law of the setpoint, kept by every step. -/
def Obligations.BudgetAndSetpointLawsAreKept : Prop :=
  ∀ s t : State, BudgetLaw s → SetpointLaw s → step s = .next t → BudgetLaw t ∧ SetpointLaw t

/-- Chapter 05 (R88, R90, R91, R94): the level is 0 outside RUN, and the history ring holds at most 64 consecutive records, kept by
every step. -/
def Obligations.DirtAndRingLawsAreKept : Prop :=
  ∀ s t : State, DirtLaw s → RingLaw s → step s = .next t → DirtLaw t ∧ RingLaw t

/-- Chapter 01 (R7, R10, R12, R14, R19, R22): the account's ranges and the checked tables, kept by every step. -/
def Obligations.AccountAndTableLawsAreKept : Prop :=
  ∀ s t : State, AccountLaw s → TablesLaw s → step s = .next t → AccountLaw t ∧ TablesLaw t

/-- Chapters 06, 09, 10 (R110, R163, R164, R171, R175, R177): the fill count, the store, the lists of the ports, the request held in process on
the handle port and the event sets stay within their bounds at every step. -/
def Obligations.StoreBinAndPortLawsAreKept : Prop :=
  ∀ s t : State, BinLaw s → StoreLaw s → PortsLaw s → EventsLaw s → step s = .next t →
    BinLaw t ∧ StoreLaw t ∧ PortsLaw t ∧ EventsLaw t

/-- Chapters 04, 11 (R60, R77, R84, R174, R182): the brush grant is 0 while the rail is off, the rest timer runs exactly at rest, and
the sleeping part stays asleep in every block, kept by every step. That the rest timer counts in STANDBY, DORMANT and SHELF too, so
that `Settled` holds in every power mode, is the model's deduction beside the 'cleared' of R185 (log entry 27, DEDUCED). -/
def Obligations.PowerAndHeadLawsAreKept : Prop :=
  ∀ s t : State, PowerLaw s → Settled s → SuctionLaw s → step s = .next t → PowerLaw t ∧ Settled t ∧ BrushLaw t

/-- R5, R154, R110, R177, R170, R171, R180: latched faults stay latched but for CLEAR, disabling and resets; F falls only by what
may lower it; slots change only by programs and resets; subscriptions, gates and the unlock have one writer each; the sequences of
the scan last acted on (R5) move at completed scans and resets alone. -/
def Obligations.OnlyNamedCommandsChange : Prop :=
  ∀ c s t, exec c s = .next t →
    (unlatches c = false → ∀ n, (entryAt s n).latched = true → (entryAt t n).latched = true) ∧
      (lowersFill c = false → s.bin.f ≤ 65535 → s.bin.f ≤ t.bin.f) ∧
      (c ≠ .storeProgramComplete → resets c = false → t.store.slots = s.store.slots) ∧
      (resets c = false →
        (∀ p, (∀ r k, c = .writeEvents r k → r.port ≠ p) →
          (engineOf t p).subscription = (engineOf s p).subscription) ∧
          ((∀ r n w, c ≠ .writeGate r n w) → t.ports.gates = s.ports.gates)) ∧
      (t.store.locked = false → s.store.locked = false ∨ ∃ r, c = .unlock r) ∧
      (resets c = false → (∀ w codes, c ≠ .scanComplete w codes) →
        t.faults.lastSeq = s.faults.lastSeq ∧ t.account.lastSeq = s.account.lastSeq)

/-- Every law holds at reset; and a store that was never programmed loads the built-in defaults with no fault latched (R176): the
power-on reset of `State.reset` is `State.reset`. The values that the manual does not give are the model's choices there: the blank
store of the reset state (log entry 4), the moment of the last scan (log entry 7), gates 10 to 15 (log entry 9) and the head samples
(log entry 10). -/
def Obligations.ResetMeetsEveryLaw : Prop :=
  SuctionLaw State.reset ∧ ChargeLaw State.reset ∧ BudgetLaw State.reset ∧ SetpointLaw State.reset ∧
    DirtLaw State.reset ∧ RingLaw State.reset ∧ AccountLaw State.reset ∧ TablesLaw State.reset ∧ BinLaw State.reset ∧
    StoreLaw State.reset ∧ PortsLaw State.reset ∧ EventsLaw State.reset ∧ PowerLaw State.reset ∧ Settled State.reset ∧
    ∀ (rail : RailReading) (strap : Bool), rail ≠ .high → exec (.powerOnReset rail strap) State.reset = .next State.reset
end

