-- ==== Sys2Proof/Laws/Frames.lean ====
section
/-! SUPPORT. Frames: how long a response is, what its bytes carry, and what the row of a received frame says of its request. -/

namespace Sys2Proof.Machine

/-! ### Response frames (R163, R167) -/

@[simp] theorem emptyFrame_eq : emptyFrame = [0, 0] := by decide

@[simp] theorem framed_length (body : List Byte) : (framed body).length = body.length + 2 := by
  simp [framed]

@[simp] theorem leBytes_length (n v : Nat) : (leBytes n v).length = n := by
  induction n generalizing v with
  | zero => rfl
  | succ n ih => simp [leBytes, ih]

@[simp] theorem payloadBytes_empty : payloadBytes .empty = [] := rfl

/-- A payload has as many bytes as its free length says, within the room of a frame. -/
theorem payloadBytes_length (p : Payload) :
    (payloadBytes p).length = if p = .empty then 0 else min 32 (Config.payloadLength p) := by
  cases p <;> simp [payloadBytes, maxPayload]

theorem payloadBytes_le (p : Payload) : (payloadBytes p).length ≤ 32 := by
  rw [payloadBytes_length]
  split <;> omega

theorem Response.bytes_length (x : Response) : x.bytes.length = (payloadBytes x.payload).length + 4 := by
  simp [Response.bytes]

/-- The least and the greatest response of the frame format. -/
theorem Response.bytes_bounds (x : Response) : 4 ≤ x.bytes.length ∧ x.bytes.length ≤ 36 := by
  have := payloadBytes_le x.payload
  rw [Response.bytes_length]
  omega

/-- The bytes of a response before its payload: length, tag echo and flag, outcome code. -/
theorem Response.bytes_take (x : Response) :
    x.bytes.take 3 =
      [BitVec.ofNat 8 ((payloadBytes x.payload).length + 2), x.head, BitVec.ofNat 8 x.code.number] := by
  simp [Response.bytes, framed]

/-- The check byte closes the frame. -/
theorem Response.bytes_check (x : Response) :
    x.bytes = x.bytes.dropLast ++ [crc8 x.bytes.dropLast] := by
  simp only [Response.bytes, framed, List.dropLast_concat]

theorem Response.bytes_of_empty (x : Response) (h : x.payload = .empty) : x.bytes.length = 4 := by
  simp [Response.bytes_length, h]

theorem zeroPadded_length (n : Nat) (f : List Byte) : (zeroPadded n f).length = max n f.length := by
  simp only [zeroPadded, List.length_append, List.length_replicate]
  omega

/-! ### Frames as received (R162) -/

/-- A frame that passes its check on the handle port is whole. -/
theorem frameWhole_of_frameOk {bytes : List Byte} (h : frameOk .handle bytes = true) : frameWhole bytes = true := by
  cases bytes with
  | nil => simp [frameOk] at h
  | cons b rest => simp_all [frameOk, frameWhole]

/-- Of a whole frame the bytes beyond its check byte are not part of it. -/
theorem frameOf_cons (b : Byte) (rest : List Byte) : frameOf (b :: rest) = b :: rest.take (b.toNat + 1) := by
  simp [frameOf]

/-- The frame of the bytes clocked passes the check that the bytes pass. -/
theorem frameOk_frameOf {bytes : List Byte} (h : frameOk .handle bytes = true) : frameOk .handle (frameOf bytes) = true := by
  cases bytes with
  | nil => simp [frameOk] at h
  | cons b rest =>
    rw [frameOf_cons]
    have hw := frameWhole_of_frameOk h
    simp only [frameWhole, decide_eq_true_eq] at hw
    simp only [frameOk, Bool.and_eq_true, beq_iff_eq] at h ⊢
    have hd : (rest.take (b.toNat + 1)).headD 0 = rest.headD 0 := by cases rest <;> simp
    have hg : (rest.take (b.toNat + 1)).getD b.toNat 0 = rest.getD b.toNat 0 := by
      simp [List.getD]
    rw [hd, hg, List.take_take, Nat.min_eq_left (by omega)]
    simp_all

/-- The frame of the bytes clocked is its own frame. -/
theorem frameOf_frameOf (bytes : List Byte) : frameOf (frameOf bytes) = frameOf bytes := by
  cases bytes with
  | nil => rfl
  | cons b rest => simp [frameOf_cons, List.take_take]

/-! ### The row of a received frame (R163) -/

/-- The row of a received frame is a request of the handle port with the tag and the requested tier of the frame. -/
theorem requestOf_requestRow (frame : List Byte) :
    ∃ r, requestOf (requestRow frame) = some r ∧ r.port = .handle ∧ r.received = true ∧ r.clocks = 0 ∧
      r.tag = frameTag frame ∧ r.tier = (frame.getD 1 0).toNat % 4 := by
  unfold requestRow
  simp only []
  split
  · exact ⟨_, rfl, rfl, rfl, rfl, rfl, rfl⟩
  · split <;> exact ⟨_, rfl, rfl, rfl, rfl, rfl, rfl⟩

/-- What a request names is defined where its undefined code is none (R168, R169). -/
theorem defined_of_undefinedCode {p : Port} {op table index : Nat} (h : undefinedCode p op table index = none) :
    table ≤ 16 ∧ index ≤ lastIndex table ∧ opDefined p op table index = true ∧ ¬(op = 5 ∧ table = 13 ∧ 10 ≤ index) := by
  unfold undefinedCode addressed at h
  split at h
  · cases h
  · rename_i hn
    split at hn
    · cases hn
    · rename_i hr
      split at hn
      · rename_i hd
        refine ⟨by omega, by omega, hd, fun hc => ?_⟩
        rw [if_pos hc] at h
        cases h
      · cases hn

/-- The row of a frame names the operation, the table and the index of the frame's header. -/
theorem addressOf_requestRow (frame : List Byte) :
    addressOf (requestRow frame) =
      some ((frame.getD 2 0).toNat, (frame.getD 3 0).toNat, (frame.getD 4 0).toNat) := by
  unfold requestRow
  simp only []
  split
  · rfl
  · rename_i hu
    generalize (frame.getD 2 0).toNat = op at hu ⊢
    generalize (frame.getD 3 0).toNat = table at hu ⊢
    generalize (frame.getD 4 0).toNat = index at hu ⊢
    simp only [Option.isSome_iff_ne_none, ne_eq, not_not] at hu
    obtain ⟨-, hi, hd, hg⟩ := defined_of_undefinedCode hu
    clear hu
    split <;> simp_all [opDefined, addressOf, lastIndex]

/-- The row of an undefined request is spelled by frames of undefined requests alone. -/
theorem undefinedCode_of_requestRow {frame : List Byte} {r : Req} {op table index : Nat}
    (h : requestRow frame = .undefinedRequest r op table index) : (undefinedCode .handle op table index).isSome = true := by
  unfold requestRow at h
  simp only [] at h
  split at h
  · rename_i hu
    cases h
    exact hu
  · rename_i hu
    generalize (frame.getD 2 0).toNat = o at hu h
    generalize (frame.getD 3 0).toNat = t at hu h
    generalize (frame.getD 4 0).toNat = i at hu h
    simp only [Option.isSome_iff_ne_none, ne_eq, not_not] at hu
    obtain ⟨-, -, hd, hg⟩ := defined_of_undefinedCode hu
    clear hu
    split at h <;> first | (cases h; done) | skip
    cases h
    simp only [opDefined] at hd
    split at hd
    · simp_all
    · split at hd <;> simp_all
    · simp_all
    · simp_all
    · have : 10 ≤ index := by
        clear hg hd
        simp_all
        omega
      exact absurd ⟨rfl, by simpa using hd, this⟩ hg
    all_goals simp_all

/-- The argument of a gate with one number is the number of the payload. -/
theorem invokeOf_requestRow {frame : List Byte} {g n : Nat} (h : invokeOf (requestRow frame) = some (g, some n))
    (hg : g ≠ 6) : n = leNat (framePayload frame) := by
  unfold requestRow at h
  simp only [] at h
  split at h
  · cases h
  · split at h <;> simp_all [invokeOf]

/-- A STORE value is the payload behind its length byte. -/
theorem writeStore_requestRow {frame : List Byte} {r : Req} {i n : Nat} {v : List Byte}
    (h : requestRow frame = .writeStore r i n v) (hf : r.fits = true) : BitVec.ofNat 8 n :: v = framePayload frame := by
  unfold requestRow at h
  simp only [] at h
  split at h
  · cases h
  · split at h <;> first | (cases h; done) | skip
    cases h
    cases hp : framePayload frame <;> simp_all [leNat]

end Sys2Proof.Machine
end

