-- ==== Sys2Proof/Laws/State.lean ====
section
/-! SUPPORT. One lemma per field and per update of State, true by unfolding, so that no later proof unfolds a record update. -/

namespace Sys2Proof.Machine

variable (s : State)

/-! ### setClock -/

@[simp] theorem State.setClock_clock (x : Nat) : (s.setClock x).clock = x := rfl
@[simp] theorem State.setClock_pending (x : Nat) : (s.setClock x).pending = s.pending := rfl
@[simp] theorem State.setClock_scan (x : Nat) : (s.setClock x).scan = s.scan := rfl
@[simp] theorem State.setClock_account (x : Nat) : (s.setClock x).account = s.account := rfl
@[simp] theorem State.setClock_tables (x : Nat) : (s.setClock x).tables = s.tables := rfl
@[simp] theorem State.setClock_budget (x : Nat) : (s.setClock x).budget = s.budget := rfl
@[simp] theorem State.setClock_suction (x : Nat) : (s.setClock x).suction = s.suction := rfl
@[simp] theorem State.setClock_head (x : Nat) : (s.setClock x).head = s.head := rfl
@[simp] theorem State.setClock_dirt (x : Nat) : (s.setClock x).dirt = s.dirt := rfl
@[simp] theorem State.setClock_bin (x : Nat) : (s.setClock x).bin = s.bin := rfl
@[simp] theorem State.setClock_charge (x : Nat) : (s.setClock x).charge = s.charge := rfl
@[simp] theorem State.setClock_faults (x : Nat) : (s.setClock x).faults = s.faults := rfl
@[simp] theorem State.setClock_ports (x : Nat) : (s.setClock x).ports = s.ports := rfl
@[simp] theorem State.setClock_store (x : Nat) : (s.setClock x).store = s.store := rfl
@[simp] theorem State.setClock_power (x : Nat) : (s.setClock x).power = s.power := rfl
@[simp] theorem State.setClock_tornCount (x : Nat) : (s.setClock x).tornCount = s.tornCount := rfl
@[simp] theorem State.setClock_setClock (x y : Nat) : (s.setClock x).setClock y = s.setClock y := rfl
@[simp] theorem State.setClock_self : s.setClock s.clock = s := rfl

/-! ### setPending -/

@[simp] theorem State.setPending_clock (x : List Instr) : (s.setPending x).clock = s.clock := rfl
@[simp] theorem State.setPending_pending (x : List Instr) : (s.setPending x).pending = x := rfl
@[simp] theorem State.setPending_scan (x : List Instr) : (s.setPending x).scan = s.scan := rfl
@[simp] theorem State.setPending_account (x : List Instr) : (s.setPending x).account = s.account := rfl
@[simp] theorem State.setPending_tables (x : List Instr) : (s.setPending x).tables = s.tables := rfl
@[simp] theorem State.setPending_budget (x : List Instr) : (s.setPending x).budget = s.budget := rfl
@[simp] theorem State.setPending_suction (x : List Instr) : (s.setPending x).suction = s.suction := rfl
@[simp] theorem State.setPending_head (x : List Instr) : (s.setPending x).head = s.head := rfl
@[simp] theorem State.setPending_dirt (x : List Instr) : (s.setPending x).dirt = s.dirt := rfl
@[simp] theorem State.setPending_bin (x : List Instr) : (s.setPending x).bin = s.bin := rfl
@[simp] theorem State.setPending_charge (x : List Instr) : (s.setPending x).charge = s.charge := rfl
@[simp] theorem State.setPending_faults (x : List Instr) : (s.setPending x).faults = s.faults := rfl
@[simp] theorem State.setPending_ports (x : List Instr) : (s.setPending x).ports = s.ports := rfl
@[simp] theorem State.setPending_store (x : List Instr) : (s.setPending x).store = s.store := rfl
@[simp] theorem State.setPending_power (x : List Instr) : (s.setPending x).power = s.power := rfl
@[simp] theorem State.setPending_tornCount (x : List Instr) : (s.setPending x).tornCount = s.tornCount := rfl
@[simp] theorem State.setPending_setPending (x y : List Instr) : (s.setPending x).setPending y = s.setPending y := rfl
@[simp] theorem State.setPending_self : s.setPending s.pending = s := rfl

/-! ### setScan -/

@[simp] theorem State.setScan_clock (x : ScanUnit) : (s.setScan x).clock = s.clock := rfl
@[simp] theorem State.setScan_pending (x : ScanUnit) : (s.setScan x).pending = s.pending := rfl
@[simp] theorem State.setScan_scan (x : ScanUnit) : (s.setScan x).scan = x := rfl
@[simp] theorem State.setScan_account (x : ScanUnit) : (s.setScan x).account = s.account := rfl
@[simp] theorem State.setScan_tables (x : ScanUnit) : (s.setScan x).tables = s.tables := rfl
@[simp] theorem State.setScan_budget (x : ScanUnit) : (s.setScan x).budget = s.budget := rfl
@[simp] theorem State.setScan_suction (x : ScanUnit) : (s.setScan x).suction = s.suction := rfl
@[simp] theorem State.setScan_head (x : ScanUnit) : (s.setScan x).head = s.head := rfl
@[simp] theorem State.setScan_dirt (x : ScanUnit) : (s.setScan x).dirt = s.dirt := rfl
@[simp] theorem State.setScan_bin (x : ScanUnit) : (s.setScan x).bin = s.bin := rfl
@[simp] theorem State.setScan_charge (x : ScanUnit) : (s.setScan x).charge = s.charge := rfl
@[simp] theorem State.setScan_faults (x : ScanUnit) : (s.setScan x).faults = s.faults := rfl
@[simp] theorem State.setScan_ports (x : ScanUnit) : (s.setScan x).ports = s.ports := rfl
@[simp] theorem State.setScan_store (x : ScanUnit) : (s.setScan x).store = s.store := rfl
@[simp] theorem State.setScan_power (x : ScanUnit) : (s.setScan x).power = s.power := rfl
@[simp] theorem State.setScan_tornCount (x : ScanUnit) : (s.setScan x).tornCount = s.tornCount := rfl
@[simp] theorem State.setScan_setScan (x y : ScanUnit) : (s.setScan x).setScan y = s.setScan y := rfl
@[simp] theorem State.setScan_self : s.setScan s.scan = s := rfl

/-! ### setAccount -/

@[simp] theorem State.setAccount_clock (x : Account) : (s.setAccount x).clock = s.clock := rfl
@[simp] theorem State.setAccount_pending (x : Account) : (s.setAccount x).pending = s.pending := rfl
@[simp] theorem State.setAccount_scan (x : Account) : (s.setAccount x).scan = s.scan := rfl
@[simp] theorem State.setAccount_account (x : Account) : (s.setAccount x).account = x := rfl
@[simp] theorem State.setAccount_tables (x : Account) : (s.setAccount x).tables = s.tables := rfl
@[simp] theorem State.setAccount_budget (x : Account) : (s.setAccount x).budget = s.budget := rfl
@[simp] theorem State.setAccount_suction (x : Account) : (s.setAccount x).suction = s.suction := rfl
@[simp] theorem State.setAccount_head (x : Account) : (s.setAccount x).head = s.head := rfl
@[simp] theorem State.setAccount_dirt (x : Account) : (s.setAccount x).dirt = s.dirt := rfl
@[simp] theorem State.setAccount_bin (x : Account) : (s.setAccount x).bin = s.bin := rfl
@[simp] theorem State.setAccount_charge (x : Account) : (s.setAccount x).charge = s.charge := rfl
@[simp] theorem State.setAccount_faults (x : Account) : (s.setAccount x).faults = s.faults := rfl
@[simp] theorem State.setAccount_ports (x : Account) : (s.setAccount x).ports = s.ports := rfl
@[simp] theorem State.setAccount_store (x : Account) : (s.setAccount x).store = s.store := rfl
@[simp] theorem State.setAccount_power (x : Account) : (s.setAccount x).power = s.power := rfl
@[simp] theorem State.setAccount_tornCount (x : Account) : (s.setAccount x).tornCount = s.tornCount := rfl
@[simp] theorem State.setAccount_setAccount (x y : Account) : (s.setAccount x).setAccount y = s.setAccount y := rfl
@[simp] theorem State.setAccount_self : s.setAccount s.account = s := rfl

/-! ### setTables -/

@[simp] theorem State.setTables_clock (x : Tables) : (s.setTables x).clock = s.clock := rfl
@[simp] theorem State.setTables_pending (x : Tables) : (s.setTables x).pending = s.pending := rfl
@[simp] theorem State.setTables_scan (x : Tables) : (s.setTables x).scan = s.scan := rfl
@[simp] theorem State.setTables_account (x : Tables) : (s.setTables x).account = s.account := rfl
@[simp] theorem State.setTables_tables (x : Tables) : (s.setTables x).tables = x := rfl
@[simp] theorem State.setTables_budget (x : Tables) : (s.setTables x).budget = s.budget := rfl
@[simp] theorem State.setTables_suction (x : Tables) : (s.setTables x).suction = s.suction := rfl
@[simp] theorem State.setTables_head (x : Tables) : (s.setTables x).head = s.head := rfl
@[simp] theorem State.setTables_dirt (x : Tables) : (s.setTables x).dirt = s.dirt := rfl
@[simp] theorem State.setTables_bin (x : Tables) : (s.setTables x).bin = s.bin := rfl
@[simp] theorem State.setTables_charge (x : Tables) : (s.setTables x).charge = s.charge := rfl
@[simp] theorem State.setTables_faults (x : Tables) : (s.setTables x).faults = s.faults := rfl
@[simp] theorem State.setTables_ports (x : Tables) : (s.setTables x).ports = s.ports := rfl
@[simp] theorem State.setTables_store (x : Tables) : (s.setTables x).store = s.store := rfl
@[simp] theorem State.setTables_power (x : Tables) : (s.setTables x).power = s.power := rfl
@[simp] theorem State.setTables_tornCount (x : Tables) : (s.setTables x).tornCount = s.tornCount := rfl
@[simp] theorem State.setTables_setTables (x y : Tables) : (s.setTables x).setTables y = s.setTables y := rfl
@[simp] theorem State.setTables_self : s.setTables s.tables = s := rfl

/-! ### setBudget -/

@[simp] theorem State.setBudget_clock (x : BudgetUnit) : (s.setBudget x).clock = s.clock := rfl
@[simp] theorem State.setBudget_pending (x : BudgetUnit) : (s.setBudget x).pending = s.pending := rfl
@[simp] theorem State.setBudget_scan (x : BudgetUnit) : (s.setBudget x).scan = s.scan := rfl
@[simp] theorem State.setBudget_account (x : BudgetUnit) : (s.setBudget x).account = s.account := rfl
@[simp] theorem State.setBudget_tables (x : BudgetUnit) : (s.setBudget x).tables = s.tables := rfl
@[simp] theorem State.setBudget_budget (x : BudgetUnit) : (s.setBudget x).budget = x := rfl
@[simp] theorem State.setBudget_suction (x : BudgetUnit) : (s.setBudget x).suction = s.suction := rfl
@[simp] theorem State.setBudget_head (x : BudgetUnit) : (s.setBudget x).head = s.head := rfl
@[simp] theorem State.setBudget_dirt (x : BudgetUnit) : (s.setBudget x).dirt = s.dirt := rfl
@[simp] theorem State.setBudget_bin (x : BudgetUnit) : (s.setBudget x).bin = s.bin := rfl
@[simp] theorem State.setBudget_charge (x : BudgetUnit) : (s.setBudget x).charge = s.charge := rfl
@[simp] theorem State.setBudget_faults (x : BudgetUnit) : (s.setBudget x).faults = s.faults := rfl
@[simp] theorem State.setBudget_ports (x : BudgetUnit) : (s.setBudget x).ports = s.ports := rfl
@[simp] theorem State.setBudget_store (x : BudgetUnit) : (s.setBudget x).store = s.store := rfl
@[simp] theorem State.setBudget_power (x : BudgetUnit) : (s.setBudget x).power = s.power := rfl
@[simp] theorem State.setBudget_tornCount (x : BudgetUnit) : (s.setBudget x).tornCount = s.tornCount := rfl
@[simp] theorem State.setBudget_setBudget (x y : BudgetUnit) : (s.setBudget x).setBudget y = s.setBudget y := rfl
@[simp] theorem State.setBudget_self : s.setBudget s.budget = s := rfl

/-! ### setSuction -/

@[simp] theorem State.setSuction_clock (x : Suction) : (s.setSuction x).clock = s.clock := rfl
@[simp] theorem State.setSuction_pending (x : Suction) : (s.setSuction x).pending = s.pending := rfl
@[simp] theorem State.setSuction_scan (x : Suction) : (s.setSuction x).scan = s.scan := rfl
@[simp] theorem State.setSuction_account (x : Suction) : (s.setSuction x).account = s.account := rfl
@[simp] theorem State.setSuction_tables (x : Suction) : (s.setSuction x).tables = s.tables := rfl
@[simp] theorem State.setSuction_budget (x : Suction) : (s.setSuction x).budget = s.budget := rfl
@[simp] theorem State.setSuction_suction (x : Suction) : (s.setSuction x).suction = x := rfl
@[simp] theorem State.setSuction_head (x : Suction) : (s.setSuction x).head = s.head := rfl
@[simp] theorem State.setSuction_dirt (x : Suction) : (s.setSuction x).dirt = s.dirt := rfl
@[simp] theorem State.setSuction_bin (x : Suction) : (s.setSuction x).bin = s.bin := rfl
@[simp] theorem State.setSuction_charge (x : Suction) : (s.setSuction x).charge = s.charge := rfl
@[simp] theorem State.setSuction_faults (x : Suction) : (s.setSuction x).faults = s.faults := rfl
@[simp] theorem State.setSuction_ports (x : Suction) : (s.setSuction x).ports = s.ports := rfl
@[simp] theorem State.setSuction_store (x : Suction) : (s.setSuction x).store = s.store := rfl
@[simp] theorem State.setSuction_power (x : Suction) : (s.setSuction x).power = s.power := rfl
@[simp] theorem State.setSuction_tornCount (x : Suction) : (s.setSuction x).tornCount = s.tornCount := rfl
@[simp] theorem State.setSuction_setSuction (x y : Suction) : (s.setSuction x).setSuction y = s.setSuction y := rfl
@[simp] theorem State.setSuction_self : s.setSuction s.suction = s := rfl

/-! ### setHead -/

@[simp] theorem State.setHead_clock (x : Head) : (s.setHead x).clock = s.clock := rfl
@[simp] theorem State.setHead_pending (x : Head) : (s.setHead x).pending = s.pending := rfl
@[simp] theorem State.setHead_scan (x : Head) : (s.setHead x).scan = s.scan := rfl
@[simp] theorem State.setHead_account (x : Head) : (s.setHead x).account = s.account := rfl
@[simp] theorem State.setHead_tables (x : Head) : (s.setHead x).tables = s.tables := rfl
@[simp] theorem State.setHead_budget (x : Head) : (s.setHead x).budget = s.budget := rfl
@[simp] theorem State.setHead_suction (x : Head) : (s.setHead x).suction = s.suction := rfl
@[simp] theorem State.setHead_head (x : Head) : (s.setHead x).head = x := rfl
@[simp] theorem State.setHead_dirt (x : Head) : (s.setHead x).dirt = s.dirt := rfl
@[simp] theorem State.setHead_bin (x : Head) : (s.setHead x).bin = s.bin := rfl
@[simp] theorem State.setHead_charge (x : Head) : (s.setHead x).charge = s.charge := rfl
@[simp] theorem State.setHead_faults (x : Head) : (s.setHead x).faults = s.faults := rfl
@[simp] theorem State.setHead_ports (x : Head) : (s.setHead x).ports = s.ports := rfl
@[simp] theorem State.setHead_store (x : Head) : (s.setHead x).store = s.store := rfl
@[simp] theorem State.setHead_power (x : Head) : (s.setHead x).power = s.power := rfl
@[simp] theorem State.setHead_tornCount (x : Head) : (s.setHead x).tornCount = s.tornCount := rfl
@[simp] theorem State.setHead_setHead (x y : Head) : (s.setHead x).setHead y = s.setHead y := rfl
@[simp] theorem State.setHead_self : s.setHead s.head = s := rfl

/-! ### setDirt -/

@[simp] theorem State.setDirt_clock (x : Dirt) : (s.setDirt x).clock = s.clock := rfl
@[simp] theorem State.setDirt_pending (x : Dirt) : (s.setDirt x).pending = s.pending := rfl
@[simp] theorem State.setDirt_scan (x : Dirt) : (s.setDirt x).scan = s.scan := rfl
@[simp] theorem State.setDirt_account (x : Dirt) : (s.setDirt x).account = s.account := rfl
@[simp] theorem State.setDirt_tables (x : Dirt) : (s.setDirt x).tables = s.tables := rfl
@[simp] theorem State.setDirt_budget (x : Dirt) : (s.setDirt x).budget = s.budget := rfl
@[simp] theorem State.setDirt_suction (x : Dirt) : (s.setDirt x).suction = s.suction := rfl
@[simp] theorem State.setDirt_head (x : Dirt) : (s.setDirt x).head = s.head := rfl
@[simp] theorem State.setDirt_dirt (x : Dirt) : (s.setDirt x).dirt = x := rfl
@[simp] theorem State.setDirt_bin (x : Dirt) : (s.setDirt x).bin = s.bin := rfl
@[simp] theorem State.setDirt_charge (x : Dirt) : (s.setDirt x).charge = s.charge := rfl
@[simp] theorem State.setDirt_faults (x : Dirt) : (s.setDirt x).faults = s.faults := rfl
@[simp] theorem State.setDirt_ports (x : Dirt) : (s.setDirt x).ports = s.ports := rfl
@[simp] theorem State.setDirt_store (x : Dirt) : (s.setDirt x).store = s.store := rfl
@[simp] theorem State.setDirt_power (x : Dirt) : (s.setDirt x).power = s.power := rfl
@[simp] theorem State.setDirt_tornCount (x : Dirt) : (s.setDirt x).tornCount = s.tornCount := rfl
@[simp] theorem State.setDirt_setDirt (x y : Dirt) : (s.setDirt x).setDirt y = s.setDirt y := rfl
@[simp] theorem State.setDirt_self : s.setDirt s.dirt = s := rfl

/-! ### setBin -/

@[simp] theorem State.setBin_clock (x : Bin) : (s.setBin x).clock = s.clock := rfl
@[simp] theorem State.setBin_pending (x : Bin) : (s.setBin x).pending = s.pending := rfl
@[simp] theorem State.setBin_scan (x : Bin) : (s.setBin x).scan = s.scan := rfl
@[simp] theorem State.setBin_account (x : Bin) : (s.setBin x).account = s.account := rfl
@[simp] theorem State.setBin_tables (x : Bin) : (s.setBin x).tables = s.tables := rfl
@[simp] theorem State.setBin_budget (x : Bin) : (s.setBin x).budget = s.budget := rfl
@[simp] theorem State.setBin_suction (x : Bin) : (s.setBin x).suction = s.suction := rfl
@[simp] theorem State.setBin_head (x : Bin) : (s.setBin x).head = s.head := rfl
@[simp] theorem State.setBin_dirt (x : Bin) : (s.setBin x).dirt = s.dirt := rfl
@[simp] theorem State.setBin_bin (x : Bin) : (s.setBin x).bin = x := rfl
@[simp] theorem State.setBin_charge (x : Bin) : (s.setBin x).charge = s.charge := rfl
@[simp] theorem State.setBin_faults (x : Bin) : (s.setBin x).faults = s.faults := rfl
@[simp] theorem State.setBin_ports (x : Bin) : (s.setBin x).ports = s.ports := rfl
@[simp] theorem State.setBin_store (x : Bin) : (s.setBin x).store = s.store := rfl
@[simp] theorem State.setBin_power (x : Bin) : (s.setBin x).power = s.power := rfl
@[simp] theorem State.setBin_tornCount (x : Bin) : (s.setBin x).tornCount = s.tornCount := rfl
@[simp] theorem State.setBin_setBin (x y : Bin) : (s.setBin x).setBin y = s.setBin y := rfl
@[simp] theorem State.setBin_self : s.setBin s.bin = s := rfl

/-! ### setCharge -/

@[simp] theorem State.setCharge_clock (x : Charge) : (s.setCharge x).clock = s.clock := rfl
@[simp] theorem State.setCharge_pending (x : Charge) : (s.setCharge x).pending = s.pending := rfl
@[simp] theorem State.setCharge_scan (x : Charge) : (s.setCharge x).scan = s.scan := rfl
@[simp] theorem State.setCharge_account (x : Charge) : (s.setCharge x).account = s.account := rfl
@[simp] theorem State.setCharge_tables (x : Charge) : (s.setCharge x).tables = s.tables := rfl
@[simp] theorem State.setCharge_budget (x : Charge) : (s.setCharge x).budget = s.budget := rfl
@[simp] theorem State.setCharge_suction (x : Charge) : (s.setCharge x).suction = s.suction := rfl
@[simp] theorem State.setCharge_head (x : Charge) : (s.setCharge x).head = s.head := rfl
@[simp] theorem State.setCharge_dirt (x : Charge) : (s.setCharge x).dirt = s.dirt := rfl
@[simp] theorem State.setCharge_bin (x : Charge) : (s.setCharge x).bin = s.bin := rfl
@[simp] theorem State.setCharge_charge (x : Charge) : (s.setCharge x).charge = x := rfl
@[simp] theorem State.setCharge_faults (x : Charge) : (s.setCharge x).faults = s.faults := rfl
@[simp] theorem State.setCharge_ports (x : Charge) : (s.setCharge x).ports = s.ports := rfl
@[simp] theorem State.setCharge_store (x : Charge) : (s.setCharge x).store = s.store := rfl
@[simp] theorem State.setCharge_power (x : Charge) : (s.setCharge x).power = s.power := rfl
@[simp] theorem State.setCharge_tornCount (x : Charge) : (s.setCharge x).tornCount = s.tornCount := rfl
@[simp] theorem State.setCharge_setCharge (x y : Charge) : (s.setCharge x).setCharge y = s.setCharge y := rfl
@[simp] theorem State.setCharge_self : s.setCharge s.charge = s := rfl

/-! ### setFaults -/

@[simp] theorem State.setFaults_clock (x : Supervisor) : (s.setFaults x).clock = s.clock := rfl
@[simp] theorem State.setFaults_pending (x : Supervisor) : (s.setFaults x).pending = s.pending := rfl
@[simp] theorem State.setFaults_scan (x : Supervisor) : (s.setFaults x).scan = s.scan := rfl
@[simp] theorem State.setFaults_account (x : Supervisor) : (s.setFaults x).account = s.account := rfl
@[simp] theorem State.setFaults_tables (x : Supervisor) : (s.setFaults x).tables = s.tables := rfl
@[simp] theorem State.setFaults_budget (x : Supervisor) : (s.setFaults x).budget = s.budget := rfl
@[simp] theorem State.setFaults_suction (x : Supervisor) : (s.setFaults x).suction = s.suction := rfl
@[simp] theorem State.setFaults_head (x : Supervisor) : (s.setFaults x).head = s.head := rfl
@[simp] theorem State.setFaults_dirt (x : Supervisor) : (s.setFaults x).dirt = s.dirt := rfl
@[simp] theorem State.setFaults_bin (x : Supervisor) : (s.setFaults x).bin = s.bin := rfl
@[simp] theorem State.setFaults_charge (x : Supervisor) : (s.setFaults x).charge = s.charge := rfl
@[simp] theorem State.setFaults_faults (x : Supervisor) : (s.setFaults x).faults = x := rfl
@[simp] theorem State.setFaults_ports (x : Supervisor) : (s.setFaults x).ports = s.ports := rfl
@[simp] theorem State.setFaults_store (x : Supervisor) : (s.setFaults x).store = s.store := rfl
@[simp] theorem State.setFaults_power (x : Supervisor) : (s.setFaults x).power = s.power := rfl
@[simp] theorem State.setFaults_tornCount (x : Supervisor) : (s.setFaults x).tornCount = s.tornCount := rfl
@[simp] theorem State.setFaults_setFaults (x y : Supervisor) : (s.setFaults x).setFaults y = s.setFaults y := rfl
@[simp] theorem State.setFaults_self : s.setFaults s.faults = s := rfl

/-! ### setPorts -/

@[simp] theorem State.setPorts_clock (x : Ports) : (s.setPorts x).clock = s.clock := rfl
@[simp] theorem State.setPorts_pending (x : Ports) : (s.setPorts x).pending = s.pending := rfl
@[simp] theorem State.setPorts_scan (x : Ports) : (s.setPorts x).scan = s.scan := rfl
@[simp] theorem State.setPorts_account (x : Ports) : (s.setPorts x).account = s.account := rfl
@[simp] theorem State.setPorts_tables (x : Ports) : (s.setPorts x).tables = s.tables := rfl
@[simp] theorem State.setPorts_budget (x : Ports) : (s.setPorts x).budget = s.budget := rfl
@[simp] theorem State.setPorts_suction (x : Ports) : (s.setPorts x).suction = s.suction := rfl
@[simp] theorem State.setPorts_head (x : Ports) : (s.setPorts x).head = s.head := rfl
@[simp] theorem State.setPorts_dirt (x : Ports) : (s.setPorts x).dirt = s.dirt := rfl
@[simp] theorem State.setPorts_bin (x : Ports) : (s.setPorts x).bin = s.bin := rfl
@[simp] theorem State.setPorts_charge (x : Ports) : (s.setPorts x).charge = s.charge := rfl
@[simp] theorem State.setPorts_faults (x : Ports) : (s.setPorts x).faults = s.faults := rfl
@[simp] theorem State.setPorts_ports (x : Ports) : (s.setPorts x).ports = x := rfl
@[simp] theorem State.setPorts_store (x : Ports) : (s.setPorts x).store = s.store := rfl
@[simp] theorem State.setPorts_power (x : Ports) : (s.setPorts x).power = s.power := rfl
@[simp] theorem State.setPorts_tornCount (x : Ports) : (s.setPorts x).tornCount = s.tornCount := rfl
@[simp] theorem State.setPorts_setPorts (x y : Ports) : (s.setPorts x).setPorts y = s.setPorts y := rfl
@[simp] theorem State.setPorts_self : s.setPorts s.ports = s := rfl

/-! ### setStore -/

@[simp] theorem State.setStore_clock (x : Store) : (s.setStore x).clock = s.clock := rfl
@[simp] theorem State.setStore_pending (x : Store) : (s.setStore x).pending = s.pending := rfl
@[simp] theorem State.setStore_scan (x : Store) : (s.setStore x).scan = s.scan := rfl
@[simp] theorem State.setStore_account (x : Store) : (s.setStore x).account = s.account := rfl
@[simp] theorem State.setStore_tables (x : Store) : (s.setStore x).tables = s.tables := rfl
@[simp] theorem State.setStore_budget (x : Store) : (s.setStore x).budget = s.budget := rfl
@[simp] theorem State.setStore_suction (x : Store) : (s.setStore x).suction = s.suction := rfl
@[simp] theorem State.setStore_head (x : Store) : (s.setStore x).head = s.head := rfl
@[simp] theorem State.setStore_dirt (x : Store) : (s.setStore x).dirt = s.dirt := rfl
@[simp] theorem State.setStore_bin (x : Store) : (s.setStore x).bin = s.bin := rfl
@[simp] theorem State.setStore_charge (x : Store) : (s.setStore x).charge = s.charge := rfl
@[simp] theorem State.setStore_faults (x : Store) : (s.setStore x).faults = s.faults := rfl
@[simp] theorem State.setStore_ports (x : Store) : (s.setStore x).ports = s.ports := rfl
@[simp] theorem State.setStore_store (x : Store) : (s.setStore x).store = x := rfl
@[simp] theorem State.setStore_power (x : Store) : (s.setStore x).power = s.power := rfl
@[simp] theorem State.setStore_tornCount (x : Store) : (s.setStore x).tornCount = s.tornCount := rfl
@[simp] theorem State.setStore_setStore (x y : Store) : (s.setStore x).setStore y = s.setStore y := rfl
@[simp] theorem State.setStore_self : s.setStore s.store = s := rfl

/-! ### setPower -/

@[simp] theorem State.setPower_clock (x : Power) : (s.setPower x).clock = s.clock := rfl
@[simp] theorem State.setPower_pending (x : Power) : (s.setPower x).pending = s.pending := rfl
@[simp] theorem State.setPower_scan (x : Power) : (s.setPower x).scan = s.scan := rfl
@[simp] theorem State.setPower_account (x : Power) : (s.setPower x).account = s.account := rfl
@[simp] theorem State.setPower_tables (x : Power) : (s.setPower x).tables = s.tables := rfl
@[simp] theorem State.setPower_budget (x : Power) : (s.setPower x).budget = s.budget := rfl
@[simp] theorem State.setPower_suction (x : Power) : (s.setPower x).suction = s.suction := rfl
@[simp] theorem State.setPower_head (x : Power) : (s.setPower x).head = s.head := rfl
@[simp] theorem State.setPower_dirt (x : Power) : (s.setPower x).dirt = s.dirt := rfl
@[simp] theorem State.setPower_bin (x : Power) : (s.setPower x).bin = s.bin := rfl
@[simp] theorem State.setPower_charge (x : Power) : (s.setPower x).charge = s.charge := rfl
@[simp] theorem State.setPower_faults (x : Power) : (s.setPower x).faults = s.faults := rfl
@[simp] theorem State.setPower_ports (x : Power) : (s.setPower x).ports = s.ports := rfl
@[simp] theorem State.setPower_store (x : Power) : (s.setPower x).store = s.store := rfl
@[simp] theorem State.setPower_power (x : Power) : (s.setPower x).power = x := rfl
@[simp] theorem State.setPower_tornCount (x : Power) : (s.setPower x).tornCount = s.tornCount := rfl
@[simp] theorem State.setPower_setPower (x y : Power) : (s.setPower x).setPower y = s.setPower y := rfl
@[simp] theorem State.setPower_self : s.setPower s.power = s := rfl

/-! ### setTornCount -/

@[simp] theorem State.setTornCount_clock (x : Nat) : (s.setTornCount x).clock = s.clock := rfl
@[simp] theorem State.setTornCount_pending (x : Nat) : (s.setTornCount x).pending = s.pending := rfl
@[simp] theorem State.setTornCount_scan (x : Nat) : (s.setTornCount x).scan = s.scan := rfl
@[simp] theorem State.setTornCount_account (x : Nat) : (s.setTornCount x).account = s.account := rfl
@[simp] theorem State.setTornCount_tables (x : Nat) : (s.setTornCount x).tables = s.tables := rfl
@[simp] theorem State.setTornCount_budget (x : Nat) : (s.setTornCount x).budget = s.budget := rfl
@[simp] theorem State.setTornCount_suction (x : Nat) : (s.setTornCount x).suction = s.suction := rfl
@[simp] theorem State.setTornCount_head (x : Nat) : (s.setTornCount x).head = s.head := rfl
@[simp] theorem State.setTornCount_dirt (x : Nat) : (s.setTornCount x).dirt = s.dirt := rfl
@[simp] theorem State.setTornCount_bin (x : Nat) : (s.setTornCount x).bin = s.bin := rfl
@[simp] theorem State.setTornCount_charge (x : Nat) : (s.setTornCount x).charge = s.charge := rfl
@[simp] theorem State.setTornCount_faults (x : Nat) : (s.setTornCount x).faults = s.faults := rfl
@[simp] theorem State.setTornCount_ports (x : Nat) : (s.setTornCount x).ports = s.ports := rfl
@[simp] theorem State.setTornCount_store (x : Nat) : (s.setTornCount x).store = s.store := rfl
@[simp] theorem State.setTornCount_power (x : Nat) : (s.setTornCount x).power = s.power := rfl
@[simp] theorem State.setTornCount_tornCount (x : Nat) : (s.setTornCount x).tornCount = x := rfl
@[simp] theorem State.setTornCount_setTornCount (x y : Nat) : (s.setTornCount x).setTornCount y = s.setTornCount y := rfl
@[simp] theorem State.setTornCount_self : s.setTornCount s.tornCount = s := rfl

end Sys2Proof.Machine
end

