-- ==== Sys2Proof/Laws/FrameOps.lean ====
section
/-! SUPPORT. What each shared operation leaves unchanged: one lemma per operation and per block it does not write. -/

namespace Sys2Proof.Machine

variable (s : State)

/-! ### reach -/

@[simp] theorem reach_pending (t : Nat) : (reach t s).pending = s.pending := rfl
@[simp] theorem reach_scan (t : Nat) : (reach t s).scan = s.scan := rfl
@[simp] theorem reach_account (t : Nat) : (reach t s).account = s.account := rfl
@[simp] theorem reach_tables (t : Nat) : (reach t s).tables = s.tables := rfl
@[simp] theorem reach_budget (t : Nat) : (reach t s).budget = s.budget := rfl
@[simp] theorem reach_suction (t : Nat) : (reach t s).suction = s.suction := rfl
@[simp] theorem reach_head (t : Nat) : (reach t s).head = s.head := rfl
@[simp] theorem reach_dirt (t : Nat) : (reach t s).dirt = s.dirt := rfl
@[simp] theorem reach_bin (t : Nat) : (reach t s).bin = s.bin := rfl
@[simp] theorem reach_charge (t : Nat) : (reach t s).charge = s.charge := rfl
@[simp] theorem reach_faults (t : Nat) : (reach t s).faults = s.faults := rfl
@[simp] theorem reach_ports (t : Nat) : (reach t s).ports = s.ports := rfl
@[simp] theorem reach_store (t : Nat) : (reach t s).store = s.store := rfl
@[simp] theorem reach_power (t : Nat) : (reach t s).power = s.power := rfl
@[simp] theorem reach_tornCount (t : Nat) : (reach t s).tornCount = s.tornCount := rfl

/-! ### raise -/

@[simp] theorem raise_clock (k : EventKind) : (raise k s).clock = s.clock := rfl
@[simp] theorem raise_pending (k : EventKind) : (raise k s).pending = s.pending := rfl
@[simp] theorem raise_scan (k : EventKind) : (raise k s).scan = s.scan := rfl
@[simp] theorem raise_account (k : EventKind) : (raise k s).account = s.account := rfl
@[simp] theorem raise_tables (k : EventKind) : (raise k s).tables = s.tables := rfl
@[simp] theorem raise_budget (k : EventKind) : (raise k s).budget = s.budget := rfl
@[simp] theorem raise_suction (k : EventKind) : (raise k s).suction = s.suction := rfl
@[simp] theorem raise_head (k : EventKind) : (raise k s).head = s.head := rfl
@[simp] theorem raise_dirt (k : EventKind) : (raise k s).dirt = s.dirt := rfl
@[simp] theorem raise_bin (k : EventKind) : (raise k s).bin = s.bin := rfl
@[simp] theorem raise_charge (k : EventKind) : (raise k s).charge = s.charge := rfl
@[simp] theorem raise_faults (k : EventKind) : (raise k s).faults = s.faults := rfl
@[simp] theorem raise_store (k : EventKind) : (raise k s).store = s.store := rfl
@[simp] theorem raise_power (k : EventKind) : (raise k s).power = s.power := rfl
@[simp] theorem raise_tornCount (k : EventKind) : (raise k s).tornCount = s.tornCount := rfl

/-! ### raiseIf -/

@[simp] theorem raiseIf_clock (c : Bool) (k : EventKind) : (raiseIf c k s).clock = s.clock := by
  unfold raiseIf
  split <;> simp
@[simp] theorem raiseIf_pending (c : Bool) (k : EventKind) : (raiseIf c k s).pending = s.pending := by
  unfold raiseIf
  split <;> simp
@[simp] theorem raiseIf_scan (c : Bool) (k : EventKind) : (raiseIf c k s).scan = s.scan := by
  unfold raiseIf
  split <;> simp
@[simp] theorem raiseIf_account (c : Bool) (k : EventKind) : (raiseIf c k s).account = s.account := by
  unfold raiseIf
  split <;> simp
@[simp] theorem raiseIf_tables (c : Bool) (k : EventKind) : (raiseIf c k s).tables = s.tables := by
  unfold raiseIf
  split <;> simp
@[simp] theorem raiseIf_budget (c : Bool) (k : EventKind) : (raiseIf c k s).budget = s.budget := by
  unfold raiseIf
  split <;> simp
@[simp] theorem raiseIf_suction (c : Bool) (k : EventKind) : (raiseIf c k s).suction = s.suction := by
  unfold raiseIf
  split <;> simp
@[simp] theorem raiseIf_head (c : Bool) (k : EventKind) : (raiseIf c k s).head = s.head := by
  unfold raiseIf
  split <;> simp
@[simp] theorem raiseIf_dirt (c : Bool) (k : EventKind) : (raiseIf c k s).dirt = s.dirt := by
  unfold raiseIf
  split <;> simp
@[simp] theorem raiseIf_bin (c : Bool) (k : EventKind) : (raiseIf c k s).bin = s.bin := by
  unfold raiseIf
  split <;> simp
@[simp] theorem raiseIf_charge (c : Bool) (k : EventKind) : (raiseIf c k s).charge = s.charge := by
  unfold raiseIf
  split <;> simp
@[simp] theorem raiseIf_faults (c : Bool) (k : EventKind) : (raiseIf c k s).faults = s.faults := by
  unfold raiseIf
  split <;> simp
@[simp] theorem raiseIf_store (c : Bool) (k : EventKind) : (raiseIf c k s).store = s.store := by
  unfold raiseIf
  split <;> simp
@[simp] theorem raiseIf_power (c : Bool) (k : EventKind) : (raiseIf c k s).power = s.power := by
  unfold raiseIf
  split <;> simp
@[simp] theorem raiseIf_tornCount (c : Bool) (k : EventKind) : (raiseIf c k s).tornCount = s.tornCount := by
  unfold raiseIf
  split <;> simp

/-! ### setEngine -/

@[simp] theorem setEngine_clock (p : Port) (e : Engine) : (setEngine p e s).clock = s.clock := rfl
@[simp] theorem setEngine_pending (p : Port) (e : Engine) : (setEngine p e s).pending = s.pending := rfl
@[simp] theorem setEngine_scan (p : Port) (e : Engine) : (setEngine p e s).scan = s.scan := rfl
@[simp] theorem setEngine_account (p : Port) (e : Engine) : (setEngine p e s).account = s.account := rfl
@[simp] theorem setEngine_tables (p : Port) (e : Engine) : (setEngine p e s).tables = s.tables := rfl
@[simp] theorem setEngine_budget (p : Port) (e : Engine) : (setEngine p e s).budget = s.budget := rfl
@[simp] theorem setEngine_suction (p : Port) (e : Engine) : (setEngine p e s).suction = s.suction := rfl
@[simp] theorem setEngine_head (p : Port) (e : Engine) : (setEngine p e s).head = s.head := rfl
@[simp] theorem setEngine_dirt (p : Port) (e : Engine) : (setEngine p e s).dirt = s.dirt := rfl
@[simp] theorem setEngine_bin (p : Port) (e : Engine) : (setEngine p e s).bin = s.bin := rfl
@[simp] theorem setEngine_charge (p : Port) (e : Engine) : (setEngine p e s).charge = s.charge := rfl
@[simp] theorem setEngine_faults (p : Port) (e : Engine) : (setEngine p e s).faults = s.faults := rfl
@[simp] theorem setEngine_store (p : Port) (e : Engine) : (setEngine p e s).store = s.store := rfl
@[simp] theorem setEngine_power (p : Port) (e : Engine) : (setEngine p e s).power = s.power := rfl
@[simp] theorem setEngine_tornCount (p : Port) (e : Engine) : (setEngine p e s).tornCount = s.tornCount := rfl

/-! ### settleGrant -/

@[simp] theorem settleGrant_clock : (settleGrant s).clock = s.clock := by
  unfold settleGrant
  split <;> simp
@[simp] theorem settleGrant_pending : (settleGrant s).pending = s.pending := by
  unfold settleGrant
  split <;> simp
@[simp] theorem settleGrant_scan : (settleGrant s).scan = s.scan := by
  unfold settleGrant
  split <;> simp
@[simp] theorem settleGrant_account : (settleGrant s).account = s.account := by
  unfold settleGrant
  split <;> simp
@[simp] theorem settleGrant_tables : (settleGrant s).tables = s.tables := by
  unfold settleGrant
  split <;> simp
@[simp] theorem settleGrant_budget : (settleGrant s).budget = s.budget := by
  unfold settleGrant
  split <;> simp
@[simp] theorem settleGrant_suction : (settleGrant s).suction = s.suction := by
  unfold settleGrant
  split <;> simp
@[simp] theorem settleGrant_dirt : (settleGrant s).dirt = s.dirt := by
  unfold settleGrant
  split <;> simp
@[simp] theorem settleGrant_bin : (settleGrant s).bin = s.bin := by
  unfold settleGrant
  split <;> simp
@[simp] theorem settleGrant_charge : (settleGrant s).charge = s.charge := by
  unfold settleGrant
  split <;> simp
@[simp] theorem settleGrant_faults : (settleGrant s).faults = s.faults := by
  unfold settleGrant
  split <;> simp
@[simp] theorem settleGrant_ports : (settleGrant s).ports = s.ports := by
  unfold settleGrant
  split <;> simp
@[simp] theorem settleGrant_store : (settleGrant s).store = s.store := by
  unfold settleGrant
  split <;> simp
@[simp] theorem settleGrant_power : (settleGrant s).power = s.power := by
  unfold settleGrant
  split <;> simp
@[simp] theorem settleGrant_tornCount : (settleGrant s).tornCount = s.tornCount := by
  unfold settleGrant
  split <;> simp

/-! ### settleRest -/

@[simp] theorem settleRest_clock : (settleRest s).clock = s.clock := rfl
@[simp] theorem settleRest_pending : (settleRest s).pending = s.pending := rfl
@[simp] theorem settleRest_scan : (settleRest s).scan = s.scan := rfl
@[simp] theorem settleRest_account : (settleRest s).account = s.account := rfl
@[simp] theorem settleRest_tables : (settleRest s).tables = s.tables := rfl
@[simp] theorem settleRest_budget : (settleRest s).budget = s.budget := rfl
@[simp] theorem settleRest_suction : (settleRest s).suction = s.suction := rfl
@[simp] theorem settleRest_head : (settleRest s).head = s.head := rfl
@[simp] theorem settleRest_dirt : (settleRest s).dirt = s.dirt := rfl
@[simp] theorem settleRest_bin : (settleRest s).bin = s.bin := rfl
@[simp] theorem settleRest_charge : (settleRest s).charge = s.charge := rfl
@[simp] theorem settleRest_faults : (settleRest s).faults = s.faults := rfl
@[simp] theorem settleRest_ports : (settleRest s).ports = s.ports := rfl
@[simp] theorem settleRest_store : (settleRest s).store = s.store := rfl
@[simp] theorem settleRest_tornCount : (settleRest s).tornCount = s.tornCount := rfl

/-! ### settleReason -/

@[simp] theorem settleReason_clock (b : State) : (settleReason b s).clock = s.clock := by simp [settleReason]
@[simp] theorem settleReason_pending (b : State) : (settleReason b s).pending = s.pending := by simp [settleReason]
@[simp] theorem settleReason_scan (b : State) : (settleReason b s).scan = s.scan := by simp [settleReason]
@[simp] theorem settleReason_account (b : State) : (settleReason b s).account = s.account := by simp [settleReason]
@[simp] theorem settleReason_tables (b : State) : (settleReason b s).tables = s.tables := by simp [settleReason]
@[simp] theorem settleReason_budget (b : State) : (settleReason b s).budget = s.budget := by simp [settleReason]
@[simp] theorem settleReason_suction (b : State) : (settleReason b s).suction = s.suction := by simp [settleReason]
@[simp] theorem settleReason_head (b : State) : (settleReason b s).head = s.head := by simp [settleReason]
@[simp] theorem settleReason_dirt (b : State) : (settleReason b s).dirt = s.dirt := by simp [settleReason]
@[simp] theorem settleReason_bin (b : State) : (settleReason b s).bin = s.bin := by simp [settleReason]
@[simp] theorem settleReason_charge (b : State) : (settleReason b s).charge = s.charge := by simp [settleReason]
@[simp] theorem settleReason_faults (b : State) : (settleReason b s).faults = s.faults := by simp [settleReason]
@[simp] theorem settleReason_store (b : State) : (settleReason b s).store = s.store := by simp [settleReason]
@[simp] theorem settleReason_power (b : State) : (settleReason b s).power = s.power := by simp [settleReason]
@[simp] theorem settleReason_tornCount (b : State) : (settleReason b s).tornCount = s.tornCount := by simp [settleReason]

/-! ### settle -/

@[simp] theorem settle_clock (b : State) : (settle b s).clock = s.clock := by simp [settle]
@[simp] theorem settle_pending (b : State) : (settle b s).pending = s.pending := by simp [settle]
@[simp] theorem settle_scan (b : State) : (settle b s).scan = s.scan := by simp [settle]
@[simp] theorem settle_account (b : State) : (settle b s).account = s.account := by simp [settle]
@[simp] theorem settle_tables (b : State) : (settle b s).tables = s.tables := by simp [settle]
@[simp] theorem settle_budget (b : State) : (settle b s).budget = s.budget := by simp [settle]
@[simp] theorem settle_suction (b : State) : (settle b s).suction = s.suction := by simp [settle]
@[simp] theorem settle_dirt (b : State) : (settle b s).dirt = s.dirt := by simp [settle]
@[simp] theorem settle_bin (b : State) : (settle b s).bin = s.bin := by simp [settle]
@[simp] theorem settle_charge (b : State) : (settle b s).charge = s.charge := by simp [settle]
@[simp] theorem settle_faults (b : State) : (settle b s).faults = s.faults := by simp [settle]
@[simp] theorem settle_store (b : State) : (settle b s).store = s.store := by simp [settle]
@[simp] theorem settle_tornCount (b : State) : (settle b s).tornCount = s.tornCount := by simp [settle]

end Sys2Proof.Machine
end

