-- ==== Sys2Proof/Laws/FrameStore.lean ====
section
/-! SUPPORT. What each shared operation leaves unchanged: one lemma per operation and per block it does not write. -/

namespace Sys2Proof.Machine

variable (s : State)

/-! ### startProgram -/

@[simp] theorem startProgram_clock (t : Nat) (v : List Byte) : (startProgram t v s).clock = s.clock := rfl
@[simp] theorem startProgram_pending (t : Nat) (v : List Byte) : (startProgram t v s).pending = s.pending := rfl
@[simp] theorem startProgram_scan (t : Nat) (v : List Byte) : (startProgram t v s).scan = s.scan := rfl
@[simp] theorem startProgram_account (t : Nat) (v : List Byte) : (startProgram t v s).account = s.account := rfl
@[simp] theorem startProgram_tables (t : Nat) (v : List Byte) : (startProgram t v s).tables = s.tables := rfl
@[simp] theorem startProgram_budget (t : Nat) (v : List Byte) : (startProgram t v s).budget = s.budget := rfl
@[simp] theorem startProgram_suction (t : Nat) (v : List Byte) : (startProgram t v s).suction = s.suction := rfl
@[simp] theorem startProgram_head (t : Nat) (v : List Byte) : (startProgram t v s).head = s.head := rfl
@[simp] theorem startProgram_dirt (t : Nat) (v : List Byte) : (startProgram t v s).dirt = s.dirt := rfl
@[simp] theorem startProgram_bin (t : Nat) (v : List Byte) : (startProgram t v s).bin = s.bin := rfl
@[simp] theorem startProgram_charge (t : Nat) (v : List Byte) : (startProgram t v s).charge = s.charge := rfl
@[simp] theorem startProgram_faults (t : Nat) (v : List Byte) : (startProgram t v s).faults = s.faults := rfl
@[simp] theorem startProgram_ports (t : Nat) (v : List Byte) : (startProgram t v s).ports = s.ports := rfl
@[simp] theorem startProgram_power (t : Nat) (v : List Byte) : (startProgram t v s).power = s.power := rfl
@[simp] theorem startProgram_tornCount (t : Nat) (v : List Byte) : (startProgram t v s).tornCount = s.tornCount := rfl

/-! ### save -/

@[simp] theorem save_clock (t : Nat) : (save t s).clock = s.clock := by
  unfold save
  (repeat' split) <;> simp
@[simp] theorem save_pending (t : Nat) : (save t s).pending = s.pending := by
  unfold save
  (repeat' split) <;> simp
@[simp] theorem save_scan (t : Nat) : (save t s).scan = s.scan := by
  unfold save
  (repeat' split) <;> simp
@[simp] theorem save_account (t : Nat) : (save t s).account = s.account := by
  unfold save
  (repeat' split) <;> simp
@[simp] theorem save_tables (t : Nat) : (save t s).tables = s.tables := by
  unfold save
  (repeat' split) <;> simp
@[simp] theorem save_budget (t : Nat) : (save t s).budget = s.budget := by
  unfold save
  (repeat' split) <;> simp
@[simp] theorem save_suction (t : Nat) : (save t s).suction = s.suction := by
  unfold save
  (repeat' split) <;> simp
@[simp] theorem save_head (t : Nat) : (save t s).head = s.head := by
  unfold save
  (repeat' split) <;> simp
@[simp] theorem save_dirt (t : Nat) : (save t s).dirt = s.dirt := by
  unfold save
  (repeat' split) <;> simp
@[simp] theorem save_bin (t : Nat) : (save t s).bin = s.bin := by
  unfold save
  (repeat' split) <;> simp
@[simp] theorem save_charge (t : Nat) : (save t s).charge = s.charge := by
  unfold save
  (repeat' split) <;> simp
@[simp] theorem save_faults (t : Nat) : (save t s).faults = s.faults := by
  unfold save
  (repeat' split) <;> simp
@[simp] theorem save_ports (t : Nat) : (save t s).ports = s.ports := by
  unfold save
  (repeat' split) <;> simp
@[simp] theorem save_power (t : Nat) : (save t s).power = s.power := by
  unfold save
  (repeat' split) <;> simp
@[simp] theorem save_tornCount (t : Nat) : (save t s).tornCount = s.tornCount := by
  unfold save
  (repeat' split) <;> simp

/-! ### saveAll -/

@[simp] theorem saveAll_clock (ts : List Nat) : (saveAll ts s).clock = s.clock := by
  induction ts generalizing s with
  | nil => rfl
  | cons t ts ih => exact (ih (save t s)).trans (save_clock s t)
@[simp] theorem saveAll_pending (ts : List Nat) : (saveAll ts s).pending = s.pending := by
  induction ts generalizing s with
  | nil => rfl
  | cons t ts ih => exact (ih (save t s)).trans (save_pending s t)
@[simp] theorem saveAll_scan (ts : List Nat) : (saveAll ts s).scan = s.scan := by
  induction ts generalizing s with
  | nil => rfl
  | cons t ts ih => exact (ih (save t s)).trans (save_scan s t)
@[simp] theorem saveAll_account (ts : List Nat) : (saveAll ts s).account = s.account := by
  induction ts generalizing s with
  | nil => rfl
  | cons t ts ih => exact (ih (save t s)).trans (save_account s t)
@[simp] theorem saveAll_tables (ts : List Nat) : (saveAll ts s).tables = s.tables := by
  induction ts generalizing s with
  | nil => rfl
  | cons t ts ih => exact (ih (save t s)).trans (save_tables s t)
@[simp] theorem saveAll_budget (ts : List Nat) : (saveAll ts s).budget = s.budget := by
  induction ts generalizing s with
  | nil => rfl
  | cons t ts ih => exact (ih (save t s)).trans (save_budget s t)
@[simp] theorem saveAll_suction (ts : List Nat) : (saveAll ts s).suction = s.suction := by
  induction ts generalizing s with
  | nil => rfl
  | cons t ts ih => exact (ih (save t s)).trans (save_suction s t)
@[simp] theorem saveAll_head (ts : List Nat) : (saveAll ts s).head = s.head := by
  induction ts generalizing s with
  | nil => rfl
  | cons t ts ih => exact (ih (save t s)).trans (save_head s t)
@[simp] theorem saveAll_dirt (ts : List Nat) : (saveAll ts s).dirt = s.dirt := by
  induction ts generalizing s with
  | nil => rfl
  | cons t ts ih => exact (ih (save t s)).trans (save_dirt s t)
@[simp] theorem saveAll_bin (ts : List Nat) : (saveAll ts s).bin = s.bin := by
  induction ts generalizing s with
  | nil => rfl
  | cons t ts ih => exact (ih (save t s)).trans (save_bin s t)
@[simp] theorem saveAll_charge (ts : List Nat) : (saveAll ts s).charge = s.charge := by
  induction ts generalizing s with
  | nil => rfl
  | cons t ts ih => exact (ih (save t s)).trans (save_charge s t)
@[simp] theorem saveAll_faults (ts : List Nat) : (saveAll ts s).faults = s.faults := by
  induction ts generalizing s with
  | nil => rfl
  | cons t ts ih => exact (ih (save t s)).trans (save_faults s t)
@[simp] theorem saveAll_ports (ts : List Nat) : (saveAll ts s).ports = s.ports := by
  induction ts generalizing s with
  | nil => rfl
  | cons t ts ih => exact (ih (save t s)).trans (save_ports s t)
@[simp] theorem saveAll_power (ts : List Nat) : (saveAll ts s).power = s.power := by
  induction ts generalizing s with
  | nil => rfl
  | cons t ts ih => exact (ih (save t s)).trans (save_power s t)
@[simp] theorem saveAll_tornCount (ts : List Nat) : (saveAll ts s).tornCount = s.tornCount := by
  induction ts generalizing s with
  | nil => rfl
  | cons t ts ih => exact (ih (save t s)).trans (save_tornCount s t)

/-! ### saveIf -/

@[simp] theorem saveIf_clock (c : Bool) (t : Nat) : (saveIf c t s).clock = s.clock := by
  unfold saveIf
  split <;> simp
@[simp] theorem saveIf_pending (c : Bool) (t : Nat) : (saveIf c t s).pending = s.pending := by
  unfold saveIf
  split <;> simp
@[simp] theorem saveIf_scan (c : Bool) (t : Nat) : (saveIf c t s).scan = s.scan := by
  unfold saveIf
  split <;> simp
@[simp] theorem saveIf_account (c : Bool) (t : Nat) : (saveIf c t s).account = s.account := by
  unfold saveIf
  split <;> simp
@[simp] theorem saveIf_tables (c : Bool) (t : Nat) : (saveIf c t s).tables = s.tables := by
  unfold saveIf
  split <;> simp
@[simp] theorem saveIf_budget (c : Bool) (t : Nat) : (saveIf c t s).budget = s.budget := by
  unfold saveIf
  split <;> simp
@[simp] theorem saveIf_suction (c : Bool) (t : Nat) : (saveIf c t s).suction = s.suction := by
  unfold saveIf
  split <;> simp
@[simp] theorem saveIf_head (c : Bool) (t : Nat) : (saveIf c t s).head = s.head := by
  unfold saveIf
  split <;> simp
@[simp] theorem saveIf_dirt (c : Bool) (t : Nat) : (saveIf c t s).dirt = s.dirt := by
  unfold saveIf
  split <;> simp
@[simp] theorem saveIf_bin (c : Bool) (t : Nat) : (saveIf c t s).bin = s.bin := by
  unfold saveIf
  split <;> simp
@[simp] theorem saveIf_charge (c : Bool) (t : Nat) : (saveIf c t s).charge = s.charge := by
  unfold saveIf
  split <;> simp
@[simp] theorem saveIf_faults (c : Bool) (t : Nat) : (saveIf c t s).faults = s.faults := by
  unfold saveIf
  split <;> simp
@[simp] theorem saveIf_ports (c : Bool) (t : Nat) : (saveIf c t s).ports = s.ports := by
  unfold saveIf
  split <;> simp
@[simp] theorem saveIf_power (c : Bool) (t : Nat) : (saveIf c t s).power = s.power := by
  unfold saveIf
  split <;> simp
@[simp] theorem saveIf_tornCount (c : Bool) (t : Nat) : (saveIf c t s).tornCount = s.tornCount := by
  unfold saveIf
  split <;> simp

/-! ### completeProgram -/

@[simp] theorem completeProgram_clock (p : Program) : (completeProgram p s).clock = s.clock := by
  unfold completeProgram
  split <;> simp
@[simp] theorem completeProgram_pending (p : Program) : (completeProgram p s).pending = s.pending := by
  unfold completeProgram
  split <;> simp
@[simp] theorem completeProgram_scan (p : Program) : (completeProgram p s).scan = s.scan := by
  unfold completeProgram
  split <;> simp
@[simp] theorem completeProgram_account (p : Program) : (completeProgram p s).account = s.account := by
  unfold completeProgram
  split <;> simp
@[simp] theorem completeProgram_tables (p : Program) : (completeProgram p s).tables = s.tables := by
  unfold completeProgram
  split <;> simp
@[simp] theorem completeProgram_budget (p : Program) : (completeProgram p s).budget = s.budget := by
  unfold completeProgram
  split <;> simp
@[simp] theorem completeProgram_suction (p : Program) : (completeProgram p s).suction = s.suction := by
  unfold completeProgram
  split <;> simp
@[simp] theorem completeProgram_head (p : Program) : (completeProgram p s).head = s.head := by
  unfold completeProgram
  split <;> simp
@[simp] theorem completeProgram_dirt (p : Program) : (completeProgram p s).dirt = s.dirt := by
  unfold completeProgram
  split <;> simp
@[simp] theorem completeProgram_bin (p : Program) : (completeProgram p s).bin = s.bin := by
  unfold completeProgram
  split <;> simp
@[simp] theorem completeProgram_charge (p : Program) : (completeProgram p s).charge = s.charge := by
  unfold completeProgram
  split <;> simp
@[simp] theorem completeProgram_faults (p : Program) : (completeProgram p s).faults = s.faults := by
  unfold completeProgram
  split <;> simp
@[simp] theorem completeProgram_ports (p : Program) : (completeProgram p s).ports = s.ports := by
  unfold completeProgram
  split <;> simp
@[simp] theorem completeProgram_power (p : Program) : (completeProgram p s).power = s.power := by
  unfold completeProgram
  split <;> simp
@[simp] theorem completeProgram_tornCount (p : Program) : (completeProgram p s).tornCount = s.tornCount := by
  unfold completeProgram
  split <;> simp

/-! ### abandonProgram -/

@[simp] theorem abandonProgram_clock : (abandonProgram s).clock = s.clock := by
  unfold abandonProgram
  split <;> simp
@[simp] theorem abandonProgram_pending : (abandonProgram s).pending = s.pending := by
  unfold abandonProgram
  split <;> simp
@[simp] theorem abandonProgram_scan : (abandonProgram s).scan = s.scan := by
  unfold abandonProgram
  split <;> simp
@[simp] theorem abandonProgram_account : (abandonProgram s).account = s.account := by
  unfold abandonProgram
  split <;> simp
@[simp] theorem abandonProgram_tables : (abandonProgram s).tables = s.tables := by
  unfold abandonProgram
  split <;> simp
@[simp] theorem abandonProgram_budget : (abandonProgram s).budget = s.budget := by
  unfold abandonProgram
  split <;> simp
@[simp] theorem abandonProgram_suction : (abandonProgram s).suction = s.suction := by
  unfold abandonProgram
  split <;> simp
@[simp] theorem abandonProgram_head : (abandonProgram s).head = s.head := by
  unfold abandonProgram
  split <;> simp
@[simp] theorem abandonProgram_dirt : (abandonProgram s).dirt = s.dirt := by
  unfold abandonProgram
  split <;> simp
@[simp] theorem abandonProgram_bin : (abandonProgram s).bin = s.bin := by
  unfold abandonProgram
  split <;> simp
@[simp] theorem abandonProgram_charge : (abandonProgram s).charge = s.charge := by
  unfold abandonProgram
  split <;> simp
@[simp] theorem abandonProgram_faults : (abandonProgram s).faults = s.faults := by
  unfold abandonProgram
  split <;> simp
@[simp] theorem abandonProgram_ports : (abandonProgram s).ports = s.ports := by
  unfold abandonProgram
  split <;> simp
@[simp] theorem abandonProgram_power : (abandonProgram s).power = s.power := by
  unfold abandonProgram
  split <;> simp

end Sys2Proof.Machine
end

