-- ==== Sys2Proof/Laws/FrameSuction.lean ====
section
/-! SUPPORT. What each shared operation leaves unchanged: one lemma per operation and per block it does not write. -/

namespace Sys2Proof.Machine

variable (s : State)

/-! ### openWindow -/

@[simp] theorem openWindow_clock (f : Bool) : (openWindow f s).clock = s.clock := rfl
@[simp] theorem openWindow_pending (f : Bool) : (openWindow f s).pending = s.pending := rfl
@[simp] theorem openWindow_scan (f : Bool) : (openWindow f s).scan = s.scan := rfl
@[simp] theorem openWindow_account (f : Bool) : (openWindow f s).account = s.account := rfl
@[simp] theorem openWindow_tables (f : Bool) : (openWindow f s).tables = s.tables := rfl
@[simp] theorem openWindow_budget (f : Bool) : (openWindow f s).budget = s.budget := rfl
@[simp] theorem openWindow_suction (f : Bool) : (openWindow f s).suction = s.suction := rfl
@[simp] theorem openWindow_head (f : Bool) : (openWindow f s).head = s.head := rfl
@[simp] theorem openWindow_bin (f : Bool) : (openWindow f s).bin = s.bin := rfl
@[simp] theorem openWindow_charge (f : Bool) : (openWindow f s).charge = s.charge := rfl
@[simp] theorem openWindow_faults (f : Bool) : (openWindow f s).faults = s.faults := rfl
@[simp] theorem openWindow_ports (f : Bool) : (openWindow f s).ports = s.ports := rfl
@[simp] theorem openWindow_store (f : Bool) : (openWindow f s).store = s.store := rfl
@[simp] theorem openWindow_power (f : Bool) : (openWindow f s).power = s.power := rfl
@[simp] theorem openWindow_tornCount (f : Bool) : (openWindow f s).tornCount = s.tornCount := rfl

/-! ### dirtEnterRun -/

@[simp] theorem dirtEnterRun_clock : (dirtEnterRun s).clock = s.clock := rfl
@[simp] theorem dirtEnterRun_pending : (dirtEnterRun s).pending = s.pending := rfl
@[simp] theorem dirtEnterRun_scan : (dirtEnterRun s).scan = s.scan := rfl
@[simp] theorem dirtEnterRun_account : (dirtEnterRun s).account = s.account := rfl
@[simp] theorem dirtEnterRun_tables : (dirtEnterRun s).tables = s.tables := rfl
@[simp] theorem dirtEnterRun_budget : (dirtEnterRun s).budget = s.budget := rfl
@[simp] theorem dirtEnterRun_suction : (dirtEnterRun s).suction = s.suction := rfl
@[simp] theorem dirtEnterRun_head : (dirtEnterRun s).head = s.head := rfl
@[simp] theorem dirtEnterRun_bin : (dirtEnterRun s).bin = s.bin := rfl
@[simp] theorem dirtEnterRun_charge : (dirtEnterRun s).charge = s.charge := rfl
@[simp] theorem dirtEnterRun_faults : (dirtEnterRun s).faults = s.faults := rfl
@[simp] theorem dirtEnterRun_ports : (dirtEnterRun s).ports = s.ports := rfl
@[simp] theorem dirtEnterRun_store : (dirtEnterRun s).store = s.store := rfl
@[simp] theorem dirtEnterRun_power : (dirtEnterRun s).power = s.power := rfl
@[simp] theorem dirtEnterRun_tornCount : (dirtEnterRun s).tornCount = s.tornCount := rfl

/-! ### dirtExitRun -/

@[simp] theorem dirtExitRun_clock : (dirtExitRun s).clock = s.clock := by simp [dirtExitRun]
@[simp] theorem dirtExitRun_pending : (dirtExitRun s).pending = s.pending := by simp [dirtExitRun]
@[simp] theorem dirtExitRun_scan : (dirtExitRun s).scan = s.scan := by simp [dirtExitRun]
@[simp] theorem dirtExitRun_account : (dirtExitRun s).account = s.account := by simp [dirtExitRun]
@[simp] theorem dirtExitRun_tables : (dirtExitRun s).tables = s.tables := by simp [dirtExitRun]
@[simp] theorem dirtExitRun_budget : (dirtExitRun s).budget = s.budget := by simp [dirtExitRun]
@[simp] theorem dirtExitRun_suction : (dirtExitRun s).suction = s.suction := by simp [dirtExitRun]
@[simp] theorem dirtExitRun_head : (dirtExitRun s).head = s.head := by simp [dirtExitRun]
@[simp] theorem dirtExitRun_bin : (dirtExitRun s).bin = s.bin := by simp [dirtExitRun]
@[simp] theorem dirtExitRun_charge : (dirtExitRun s).charge = s.charge := by simp [dirtExitRun]
@[simp] theorem dirtExitRun_faults : (dirtExitRun s).faults = s.faults := by simp [dirtExitRun]
@[simp] theorem dirtExitRun_store : (dirtExitRun s).store = s.store := by simp [dirtExitRun]
@[simp] theorem dirtExitRun_power : (dirtExitRun s).power = s.power := by simp [dirtExitRun]
@[simp] theorem dirtExitRun_tornCount : (dirtExitRun s).tornCount = s.tornCount := by simp [dirtExitRun]

/-! ### setSuctionState -/

@[simp] theorem setSuctionState_clock (n : SuctionState) : (setSuctionState n s).clock = s.clock := by
  unfold setSuctionState
  (repeat' split) <;> simp
@[simp] theorem setSuctionState_pending (n : SuctionState) : (setSuctionState n s).pending = s.pending := by
  unfold setSuctionState
  (repeat' split) <;> simp
@[simp] theorem setSuctionState_scan (n : SuctionState) : (setSuctionState n s).scan = s.scan := by
  unfold setSuctionState
  (repeat' split) <;> simp
@[simp] theorem setSuctionState_account (n : SuctionState) : (setSuctionState n s).account = s.account := by
  unfold setSuctionState
  (repeat' split) <;> simp
@[simp] theorem setSuctionState_tables (n : SuctionState) : (setSuctionState n s).tables = s.tables := by
  unfold setSuctionState
  (repeat' split) <;> simp
@[simp] theorem setSuctionState_budget (n : SuctionState) : (setSuctionState n s).budget = s.budget := by
  unfold setSuctionState
  (repeat' split) <;> simp
@[simp] theorem setSuctionState_head (n : SuctionState) : (setSuctionState n s).head = s.head := by
  unfold setSuctionState
  (repeat' split) <;> simp
@[simp] theorem setSuctionState_bin (n : SuctionState) : (setSuctionState n s).bin = s.bin := by
  unfold setSuctionState
  (repeat' split) <;> simp
@[simp] theorem setSuctionState_charge (n : SuctionState) : (setSuctionState n s).charge = s.charge := by
  unfold setSuctionState
  (repeat' split) <;> simp
@[simp] theorem setSuctionState_faults (n : SuctionState) : (setSuctionState n s).faults = s.faults := by
  unfold setSuctionState
  (repeat' split) <;> simp
@[simp] theorem setSuctionState_store (n : SuctionState) : (setSuctionState n s).store = s.store := by
  unfold setSuctionState
  (repeat' split) <;> simp
@[simp] theorem setSuctionState_power (n : SuctionState) : (setSuctionState n s).power = s.power := by
  unfold setSuctionState
  (repeat' split) <;> simp
@[simp] theorem setSuctionState_tornCount (n : SuctionState) : (setSuctionState n s).tornCount = s.tornCount := by
  unfold setSuctionState
  (repeat' split) <;> simp

/-! ### enterCoast -/

@[simp] theorem enterCoast_clock : (enterCoast s).clock = s.clock := by
  unfold enterCoast
  simp only []
  (repeat' split) <;> simp
@[simp] theorem enterCoast_pending : (enterCoast s).pending = s.pending := by
  unfold enterCoast
  simp only []
  (repeat' split) <;> simp
@[simp] theorem enterCoast_scan : (enterCoast s).scan = s.scan := by
  unfold enterCoast
  simp only []
  (repeat' split) <;> simp
@[simp] theorem enterCoast_account : (enterCoast s).account = s.account := by
  unfold enterCoast
  simp only []
  (repeat' split) <;> simp
@[simp] theorem enterCoast_tables : (enterCoast s).tables = s.tables := by
  unfold enterCoast
  simp only []
  (repeat' split) <;> simp
@[simp] theorem enterCoast_budget : (enterCoast s).budget = s.budget := by
  unfold enterCoast
  simp only []
  (repeat' split) <;> simp
@[simp] theorem enterCoast_head : (enterCoast s).head = s.head := by
  unfold enterCoast
  simp only []
  (repeat' split) <;> simp
@[simp] theorem enterCoast_bin : (enterCoast s).bin = s.bin := by
  unfold enterCoast
  simp only []
  (repeat' split) <;> simp
@[simp] theorem enterCoast_charge : (enterCoast s).charge = s.charge := by
  unfold enterCoast
  simp only []
  (repeat' split) <;> simp
@[simp] theorem enterCoast_faults : (enterCoast s).faults = s.faults := by
  unfold enterCoast
  simp only []
  (repeat' split) <;> simp
@[simp] theorem enterCoast_store : (enterCoast s).store = s.store := by
  unfold enterCoast
  simp only []
  (repeat' split) <;> simp
@[simp] theorem enterCoast_power : (enterCoast s).power = s.power := by
  unfold enterCoast
  simp only []
  (repeat' split) <;> simp
@[simp] theorem enterCoast_tornCount : (enterCoast s).tornCount = s.tornCount := by
  unfold enterCoast
  simp only []
  (repeat' split) <;> simp

/-! ### enterSpinUp -/

@[simp] theorem enterSpinUp_clock : (enterSpinUp s).clock = s.clock := by
  unfold enterSpinUp
  simp only []
  (repeat' split) <;> simp
@[simp] theorem enterSpinUp_pending : (enterSpinUp s).pending = s.pending := by
  unfold enterSpinUp
  simp only []
  (repeat' split) <;> simp
@[simp] theorem enterSpinUp_scan : (enterSpinUp s).scan = s.scan := by
  unfold enterSpinUp
  simp only []
  (repeat' split) <;> simp
@[simp] theorem enterSpinUp_account : (enterSpinUp s).account = s.account := by
  unfold enterSpinUp
  simp only []
  (repeat' split) <;> simp
@[simp] theorem enterSpinUp_tables : (enterSpinUp s).tables = s.tables := by
  unfold enterSpinUp
  simp only []
  (repeat' split) <;> simp
@[simp] theorem enterSpinUp_budget : (enterSpinUp s).budget = s.budget := by
  unfold enterSpinUp
  simp only []
  (repeat' split) <;> simp
@[simp] theorem enterSpinUp_head : (enterSpinUp s).head = s.head := by
  unfold enterSpinUp
  simp only []
  (repeat' split) <;> simp
@[simp] theorem enterSpinUp_bin : (enterSpinUp s).bin = s.bin := by
  unfold enterSpinUp
  simp only []
  (repeat' split) <;> simp
@[simp] theorem enterSpinUp_charge : (enterSpinUp s).charge = s.charge := by
  unfold enterSpinUp
  simp only []
  (repeat' split) <;> simp
@[simp] theorem enterSpinUp_faults : (enterSpinUp s).faults = s.faults := by
  unfold enterSpinUp
  simp only []
  (repeat' split) <;> simp
@[simp] theorem enterSpinUp_store : (enterSpinUp s).store = s.store := by
  unfold enterSpinUp
  simp only []
  (repeat' split) <;> simp
@[simp] theorem enterSpinUp_power : (enterSpinUp s).power = s.power := by
  unfold enterSpinUp
  simp only []
  (repeat' split) <;> simp
@[simp] theorem enterSpinUp_tornCount : (enterSpinUp s).tornCount = s.tornCount := by
  unfold enterSpinUp
  simp only []
  (repeat' split) <;> simp

/-! ### endDemand -/

@[simp] theorem endDemand_clock (r : EndReason) : (endDemand r s).clock = s.clock := by
  unfold endDemand
  split <;> simp
@[simp] theorem endDemand_pending (r : EndReason) : (endDemand r s).pending = s.pending := by
  unfold endDemand
  split <;> simp
@[simp] theorem endDemand_scan (r : EndReason) : (endDemand r s).scan = s.scan := by
  unfold endDemand
  split <;> simp
@[simp] theorem endDemand_account (r : EndReason) : (endDemand r s).account = s.account := by
  unfold endDemand
  split <;> simp
@[simp] theorem endDemand_tables (r : EndReason) : (endDemand r s).tables = s.tables := by
  unfold endDemand
  split <;> simp
@[simp] theorem endDemand_budget (r : EndReason) : (endDemand r s).budget = s.budget := by
  unfold endDemand
  split <;> simp
@[simp] theorem endDemand_head (r : EndReason) : (endDemand r s).head = s.head := by
  unfold endDemand
  split <;> simp
@[simp] theorem endDemand_dirt (r : EndReason) : (endDemand r s).dirt = s.dirt := by
  unfold endDemand
  split <;> simp
@[simp] theorem endDemand_bin (r : EndReason) : (endDemand r s).bin = s.bin := by
  unfold endDemand
  split <;> simp
@[simp] theorem endDemand_charge (r : EndReason) : (endDemand r s).charge = s.charge := by
  unfold endDemand
  split <;> simp
@[simp] theorem endDemand_faults (r : EndReason) : (endDemand r s).faults = s.faults := by
  unfold endDemand
  split <;> simp
@[simp] theorem endDemand_store (r : EndReason) : (endDemand r s).store = s.store := by
  unfold endDemand
  split <;> simp
@[simp] theorem endDemand_power (r : EndReason) : (endDemand r s).power = s.power := by
  unfold endDemand
  split <;> simp
@[simp] theorem endDemand_tornCount (r : EndReason) : (endDemand r s).tornCount = s.tornCount := by
  unfold endDemand
  split <;> simp

/-! ### endDemandCoast -/

@[simp] theorem endDemandCoast_clock (r : EndReason) : (endDemandCoast r s).clock = s.clock := by
  unfold endDemandCoast
  simp only []
  (repeat' split) <;> simp
@[simp] theorem endDemandCoast_pending (r : EndReason) : (endDemandCoast r s).pending = s.pending := by
  unfold endDemandCoast
  simp only []
  (repeat' split) <;> simp
@[simp] theorem endDemandCoast_scan (r : EndReason) : (endDemandCoast r s).scan = s.scan := by
  unfold endDemandCoast
  simp only []
  (repeat' split) <;> simp
@[simp] theorem endDemandCoast_account (r : EndReason) : (endDemandCoast r s).account = s.account := by
  unfold endDemandCoast
  simp only []
  (repeat' split) <;> simp
@[simp] theorem endDemandCoast_tables (r : EndReason) : (endDemandCoast r s).tables = s.tables := by
  unfold endDemandCoast
  simp only []
  (repeat' split) <;> simp
@[simp] theorem endDemandCoast_budget (r : EndReason) : (endDemandCoast r s).budget = s.budget := by
  unfold endDemandCoast
  simp only []
  (repeat' split) <;> simp
@[simp] theorem endDemandCoast_head (r : EndReason) : (endDemandCoast r s).head = s.head := by
  unfold endDemandCoast
  simp only []
  (repeat' split) <;> simp
@[simp] theorem endDemandCoast_bin (r : EndReason) : (endDemandCoast r s).bin = s.bin := by
  unfold endDemandCoast
  simp only []
  (repeat' split) <;> simp
@[simp] theorem endDemandCoast_charge (r : EndReason) : (endDemandCoast r s).charge = s.charge := by
  unfold endDemandCoast
  simp only []
  (repeat' split) <;> simp
@[simp] theorem endDemandCoast_faults (r : EndReason) : (endDemandCoast r s).faults = s.faults := by
  unfold endDemandCoast
  simp only []
  (repeat' split) <;> simp
@[simp] theorem endDemandCoast_store (r : EndReason) : (endDemandCoast r s).store = s.store := by
  unfold endDemandCoast
  simp only []
  (repeat' split) <;> simp
@[simp] theorem endDemandCoast_power (r : EndReason) : (endDemandCoast r s).power = s.power := by
  unfold endDemandCoast
  simp only []
  (repeat' split) <;> simp
@[simp] theorem endDemandCoast_tornCount (r : EndReason) : (endDemandCoast r s).tornCount = s.tornCount := by
  unfold endDemandCoast
  simp only []
  (repeat' split) <;> simp

/-! ### tripSuction -/

@[simp] theorem tripSuction_clock : (tripSuction s).clock = s.clock := by simp [tripSuction]
@[simp] theorem tripSuction_pending : (tripSuction s).pending = s.pending := by simp [tripSuction]
@[simp] theorem tripSuction_scan : (tripSuction s).scan = s.scan := by simp [tripSuction]
@[simp] theorem tripSuction_account : (tripSuction s).account = s.account := by simp [tripSuction]
@[simp] theorem tripSuction_tables : (tripSuction s).tables = s.tables := by simp [tripSuction]
@[simp] theorem tripSuction_budget : (tripSuction s).budget = s.budget := by simp [tripSuction]
@[simp] theorem tripSuction_head : (tripSuction s).head = s.head := by simp [tripSuction]
@[simp] theorem tripSuction_bin : (tripSuction s).bin = s.bin := by simp [tripSuction]
@[simp] theorem tripSuction_charge : (tripSuction s).charge = s.charge := by simp [tripSuction]
@[simp] theorem tripSuction_faults : (tripSuction s).faults = s.faults := by simp [tripSuction]
@[simp] theorem tripSuction_store : (tripSuction s).store = s.store := by simp [tripSuction]
@[simp] theorem tripSuction_power : (tripSuction s).power = s.power := by simp [tripSuction]
@[simp] theorem tripSuction_tornCount : (tripSuction s).tornCount = s.tornCount := by simp [tripSuction]

/-! ### inhibit -/

@[simp] theorem inhibit_clock (r : EndReason) : (inhibit r s).clock = s.clock := by
  unfold inhibit
  split <;> simp
@[simp] theorem inhibit_pending (r : EndReason) : (inhibit r s).pending = s.pending := by
  unfold inhibit
  split <;> simp
@[simp] theorem inhibit_scan (r : EndReason) : (inhibit r s).scan = s.scan := by
  unfold inhibit
  split <;> simp
@[simp] theorem inhibit_account (r : EndReason) : (inhibit r s).account = s.account := by
  unfold inhibit
  split <;> simp
@[simp] theorem inhibit_tables (r : EndReason) : (inhibit r s).tables = s.tables := by
  unfold inhibit
  split <;> simp
@[simp] theorem inhibit_budget (r : EndReason) : (inhibit r s).budget = s.budget := by
  unfold inhibit
  split <;> simp
@[simp] theorem inhibit_head (r : EndReason) : (inhibit r s).head = s.head := by
  unfold inhibit
  split <;> simp
@[simp] theorem inhibit_bin (r : EndReason) : (inhibit r s).bin = s.bin := by
  unfold inhibit
  split <;> simp
@[simp] theorem inhibit_charge (r : EndReason) : (inhibit r s).charge = s.charge := by
  unfold inhibit
  split <;> simp
@[simp] theorem inhibit_faults (r : EndReason) : (inhibit r s).faults = s.faults := by
  unfold inhibit
  split <;> simp
@[simp] theorem inhibit_store (r : EndReason) : (inhibit r s).store = s.store := by
  unfold inhibit
  split <;> simp
@[simp] theorem inhibit_power (r : EndReason) : (inhibit r s).power = s.power := by
  unfold inhibit
  split <;> simp
@[simp] theorem inhibit_tornCount (r : EndReason) : (inhibit r s).tornCount = s.tornCount := by
  unfold inhibit
  split <;> simp

/-! ### enterIdle -/

@[simp] theorem enterIdle_clock : (enterIdle s).clock = s.clock := by
  unfold enterIdle
  split <;> simp
@[simp] theorem enterIdle_pending : (enterIdle s).pending = s.pending := by
  unfold enterIdle
  split <;> simp
@[simp] theorem enterIdle_scan : (enterIdle s).scan = s.scan := by
  unfold enterIdle
  split <;> simp
@[simp] theorem enterIdle_account : (enterIdle s).account = s.account := by
  unfold enterIdle
  split <;> simp
@[simp] theorem enterIdle_tables : (enterIdle s).tables = s.tables := by
  unfold enterIdle
  split <;> simp
@[simp] theorem enterIdle_budget : (enterIdle s).budget = s.budget := by
  unfold enterIdle
  split <;> simp
@[simp] theorem enterIdle_head : (enterIdle s).head = s.head := by
  unfold enterIdle
  split <;> simp
@[simp] theorem enterIdle_bin : (enterIdle s).bin = s.bin := by
  unfold enterIdle
  split <;> simp
@[simp] theorem enterIdle_charge : (enterIdle s).charge = s.charge := by
  unfold enterIdle
  split <;> simp
@[simp] theorem enterIdle_faults : (enterIdle s).faults = s.faults := by
  unfold enterIdle
  split <;> simp
@[simp] theorem enterIdle_store : (enterIdle s).store = s.store := by
  unfold enterIdle
  split <;> simp
@[simp] theorem enterIdle_power : (enterIdle s).power = s.power := by
  unfold enterIdle
  split <;> simp
@[simp] theorem enterIdle_tornCount : (enterIdle s).tornCount = s.tornCount := by
  unfold enterIdle
  split <;> simp

/-! ### releaseInhibit -/

@[simp] theorem releaseInhibit_clock : (releaseInhibit s).clock = s.clock := by
  unfold releaseInhibit
  split <;> simp
@[simp] theorem releaseInhibit_pending : (releaseInhibit s).pending = s.pending := by
  unfold releaseInhibit
  split <;> simp
@[simp] theorem releaseInhibit_scan : (releaseInhibit s).scan = s.scan := by
  unfold releaseInhibit
  split <;> simp
@[simp] theorem releaseInhibit_account : (releaseInhibit s).account = s.account := by
  unfold releaseInhibit
  split <;> simp
@[simp] theorem releaseInhibit_tables : (releaseInhibit s).tables = s.tables := by
  unfold releaseInhibit
  split <;> simp
@[simp] theorem releaseInhibit_budget : (releaseInhibit s).budget = s.budget := by
  unfold releaseInhibit
  split <;> simp
@[simp] theorem releaseInhibit_head : (releaseInhibit s).head = s.head := by
  unfold releaseInhibit
  split <;> simp
@[simp] theorem releaseInhibit_bin : (releaseInhibit s).bin = s.bin := by
  unfold releaseInhibit
  split <;> simp
@[simp] theorem releaseInhibit_charge : (releaseInhibit s).charge = s.charge := by
  unfold releaseInhibit
  split <;> simp
@[simp] theorem releaseInhibit_faults : (releaseInhibit s).faults = s.faults := by
  unfold releaseInhibit
  split <;> simp
@[simp] theorem releaseInhibit_store : (releaseInhibit s).store = s.store := by
  unfold releaseInhibit
  split <;> simp
@[simp] theorem releaseInhibit_power : (releaseInhibit s).power = s.power := by
  unfold releaseInhibit
  split <;> simp
@[simp] theorem releaseInhibit_tornCount : (releaseInhibit s).tornCount = s.tornCount := by
  unfold releaseInhibit
  split <;> simp

/-! ### releaseTrip -/

@[simp] theorem releaseTrip_clock : (releaseTrip s).clock = s.clock := by
  unfold releaseTrip
  (repeat' split) <;> simp
@[simp] theorem releaseTrip_pending : (releaseTrip s).pending = s.pending := by
  unfold releaseTrip
  (repeat' split) <;> simp
@[simp] theorem releaseTrip_scan : (releaseTrip s).scan = s.scan := by
  unfold releaseTrip
  (repeat' split) <;> simp
@[simp] theorem releaseTrip_account : (releaseTrip s).account = s.account := by
  unfold releaseTrip
  (repeat' split) <;> simp
@[simp] theorem releaseTrip_tables : (releaseTrip s).tables = s.tables := by
  unfold releaseTrip
  (repeat' split) <;> simp
@[simp] theorem releaseTrip_budget : (releaseTrip s).budget = s.budget := by
  unfold releaseTrip
  (repeat' split) <;> simp
@[simp] theorem releaseTrip_head : (releaseTrip s).head = s.head := by
  unfold releaseTrip
  (repeat' split) <;> simp
@[simp] theorem releaseTrip_bin : (releaseTrip s).bin = s.bin := by
  unfold releaseTrip
  (repeat' split) <;> simp
@[simp] theorem releaseTrip_charge : (releaseTrip s).charge = s.charge := by
  unfold releaseTrip
  (repeat' split) <;> simp
@[simp] theorem releaseTrip_faults : (releaseTrip s).faults = s.faults := by
  unfold releaseTrip
  (repeat' split) <;> simp
@[simp] theorem releaseTrip_store : (releaseTrip s).store = s.store := by
  unfold releaseTrip
  (repeat' split) <;> simp
@[simp] theorem releaseTrip_power : (releaseTrip s).power = s.power := by
  unfold releaseTrip
  (repeat' split) <;> simp
@[simp] theorem releaseTrip_tornCount : (releaseTrip s).tornCount = s.tornCount := by
  unfold releaseTrip
  (repeat' split) <;> simp

/-! ### speedChanged -/

@[simp] theorem speedChanged_clock : (speedChanged s).clock = s.clock := by
  unfold speedChanged
  (repeat' split) <;> simp
@[simp] theorem speedChanged_pending : (speedChanged s).pending = s.pending := by
  unfold speedChanged
  (repeat' split) <;> simp
@[simp] theorem speedChanged_scan : (speedChanged s).scan = s.scan := by
  unfold speedChanged
  (repeat' split) <;> simp
@[simp] theorem speedChanged_account : (speedChanged s).account = s.account := by
  unfold speedChanged
  (repeat' split) <;> simp
@[simp] theorem speedChanged_tables : (speedChanged s).tables = s.tables := by
  unfold speedChanged
  (repeat' split) <;> simp
@[simp] theorem speedChanged_budget : (speedChanged s).budget = s.budget := by
  unfold speedChanged
  (repeat' split) <;> simp
@[simp] theorem speedChanged_head : (speedChanged s).head = s.head := by
  unfold speedChanged
  (repeat' split) <;> simp
@[simp] theorem speedChanged_bin : (speedChanged s).bin = s.bin := by
  unfold speedChanged
  (repeat' split) <;> simp
@[simp] theorem speedChanged_charge : (speedChanged s).charge = s.charge := by
  unfold speedChanged
  (repeat' split) <;> simp
@[simp] theorem speedChanged_faults : (speedChanged s).faults = s.faults := by
  unfold speedChanged
  (repeat' split) <;> simp
@[simp] theorem speedChanged_store : (speedChanged s).store = s.store := by
  unfold speedChanged
  (repeat' split) <;> simp
@[simp] theorem speedChanged_power : (speedChanged s).power = s.power := by
  unfold speedChanged
  (repeat' split) <;> simp
@[simp] theorem speedChanged_tornCount : (speedChanged s).tornCount = s.tornCount := by
  unfold speedChanged
  (repeat' split) <;> simp

end Sys2Proof.Machine
end

