-- ==== Sys2Proof/Laws/FrameCharge.lean ====
section
/-! SUPPORT. What each shared operation leaves unchanged: one lemma per operation and per block it does not write. -/

namespace Sys2Proof.Machine

variable (s : State)

/-! ### fullSync -/

@[simp] theorem fullSync_clock : (fullSync s).clock = s.clock := rfl
@[simp] theorem fullSync_pending : (fullSync s).pending = s.pending := rfl
@[simp] theorem fullSync_scan : (fullSync s).scan = s.scan := rfl
@[simp] theorem fullSync_tables : (fullSync s).tables = s.tables := rfl
@[simp] theorem fullSync_budget : (fullSync s).budget = s.budget := rfl
@[simp] theorem fullSync_suction : (fullSync s).suction = s.suction := rfl
@[simp] theorem fullSync_head : (fullSync s).head = s.head := rfl
@[simp] theorem fullSync_dirt : (fullSync s).dirt = s.dirt := rfl
@[simp] theorem fullSync_bin : (fullSync s).bin = s.bin := rfl
@[simp] theorem fullSync_charge : (fullSync s).charge = s.charge := rfl
@[simp] theorem fullSync_faults : (fullSync s).faults = s.faults := rfl
@[simp] theorem fullSync_ports : (fullSync s).ports = s.ports := rfl
@[simp] theorem fullSync_store : (fullSync s).store = s.store := rfl
@[simp] theorem fullSync_power : (fullSync s).power = s.power := rfl
@[simp] theorem fullSync_tornCount : (fullSync s).tornCount = s.tornCount := rfl

/-! ### setStage -/

@[simp] theorem setStage_clock (n : ChargeStage) : (setStage n s).clock = s.clock := by
  unfold setStage
  split <;> simp
@[simp] theorem setStage_pending (n : ChargeStage) : (setStage n s).pending = s.pending := by
  unfold setStage
  split <;> simp
@[simp] theorem setStage_scan (n : ChargeStage) : (setStage n s).scan = s.scan := by
  unfold setStage
  split <;> simp
@[simp] theorem setStage_account (n : ChargeStage) : (setStage n s).account = s.account := by
  unfold setStage
  split <;> simp
@[simp] theorem setStage_tables (n : ChargeStage) : (setStage n s).tables = s.tables := by
  unfold setStage
  split <;> simp
@[simp] theorem setStage_budget (n : ChargeStage) : (setStage n s).budget = s.budget := by
  unfold setStage
  split <;> simp
@[simp] theorem setStage_suction (n : ChargeStage) : (setStage n s).suction = s.suction := by
  unfold setStage
  split <;> simp
@[simp] theorem setStage_head (n : ChargeStage) : (setStage n s).head = s.head := by
  unfold setStage
  split <;> simp
@[simp] theorem setStage_dirt (n : ChargeStage) : (setStage n s).dirt = s.dirt := by
  unfold setStage
  split <;> simp
@[simp] theorem setStage_bin (n : ChargeStage) : (setStage n s).bin = s.bin := by
  unfold setStage
  split <;> simp
@[simp] theorem setStage_faults (n : ChargeStage) : (setStage n s).faults = s.faults := by
  unfold setStage
  split <;> simp
@[simp] theorem setStage_store (n : ChargeStage) : (setStage n s).store = s.store := by
  unfold setStage
  split <;> simp
@[simp] theorem setStage_power (n : ChargeStage) : (setStage n s).power = s.power := by
  unfold setStage
  split <;> simp
@[simp] theorem setStage_tornCount (n : ChargeStage) : (setStage n s).tornCount = s.tornCount := by
  unfold setStage
  split <;> simp

/-! ### zeroGrants -/

@[simp] theorem zeroGrants_clock : (zeroGrants s).clock = s.clock := rfl
@[simp] theorem zeroGrants_pending : (zeroGrants s).pending = s.pending := rfl
@[simp] theorem zeroGrants_scan : (zeroGrants s).scan = s.scan := rfl
@[simp] theorem zeroGrants_account : (zeroGrants s).account = s.account := rfl
@[simp] theorem zeroGrants_tables : (zeroGrants s).tables = s.tables := rfl
@[simp] theorem zeroGrants_budget : (zeroGrants s).budget = s.budget := rfl
@[simp] theorem zeroGrants_suction : (zeroGrants s).suction = s.suction := rfl
@[simp] theorem zeroGrants_head : (zeroGrants s).head = s.head := rfl
@[simp] theorem zeroGrants_dirt : (zeroGrants s).dirt = s.dirt := rfl
@[simp] theorem zeroGrants_bin : (zeroGrants s).bin = s.bin := rfl
@[simp] theorem zeroGrants_faults : (zeroGrants s).faults = s.faults := rfl
@[simp] theorem zeroGrants_ports : (zeroGrants s).ports = s.ports := rfl
@[simp] theorem zeroGrants_store : (zeroGrants s).store = s.store := rfl
@[simp] theorem zeroGrants_power : (zeroGrants s).power = s.power := rfl
@[simp] theorem zeroGrants_tornCount : (zeroGrants s).tornCount = s.tornCount := rfl

/-! ### enterTopped -/

@[simp] theorem enterTopped_clock : (enterTopped s).clock = s.clock := by simp [enterTopped]
@[simp] theorem enterTopped_pending : (enterTopped s).pending = s.pending := by simp [enterTopped]
@[simp] theorem enterTopped_scan : (enterTopped s).scan = s.scan := by simp [enterTopped]
@[simp] theorem enterTopped_tables : (enterTopped s).tables = s.tables := by simp [enterTopped]
@[simp] theorem enterTopped_budget : (enterTopped s).budget = s.budget := by simp [enterTopped]
@[simp] theorem enterTopped_suction : (enterTopped s).suction = s.suction := by simp [enterTopped]
@[simp] theorem enterTopped_head : (enterTopped s).head = s.head := by simp [enterTopped]
@[simp] theorem enterTopped_dirt : (enterTopped s).dirt = s.dirt := by simp [enterTopped]
@[simp] theorem enterTopped_bin : (enterTopped s).bin = s.bin := by simp [enterTopped]
@[simp] theorem enterTopped_faults : (enterTopped s).faults = s.faults := by simp [enterTopped]
@[simp] theorem enterTopped_power : (enterTopped s).power = s.power := by simp [enterTopped]
@[simp] theorem enterTopped_tornCount : (enterTopped s).tornCount = s.tornCount := by simp [enterTopped]

/-! ### enterHold -/

@[simp] theorem enterHold_clock : (enterHold s).clock = s.clock := by simp [enterHold]
@[simp] theorem enterHold_pending : (enterHold s).pending = s.pending := by simp [enterHold]
@[simp] theorem enterHold_scan : (enterHold s).scan = s.scan := by simp [enterHold]
@[simp] theorem enterHold_account : (enterHold s).account = s.account := by simp [enterHold]
@[simp] theorem enterHold_tables : (enterHold s).tables = s.tables := by simp [enterHold]
@[simp] theorem enterHold_budget : (enterHold s).budget = s.budget := by simp [enterHold]
@[simp] theorem enterHold_suction : (enterHold s).suction = s.suction := by simp [enterHold]
@[simp] theorem enterHold_head : (enterHold s).head = s.head := by simp [enterHold]
@[simp] theorem enterHold_dirt : (enterHold s).dirt = s.dirt := by simp [enterHold]
@[simp] theorem enterHold_bin : (enterHold s).bin = s.bin := by simp [enterHold]
@[simp] theorem enterHold_faults : (enterHold s).faults = s.faults := by simp [enterHold]
@[simp] theorem enterHold_store : (enterHold s).store = s.store := by simp [enterHold]
@[simp] theorem enterHold_power : (enterHold s).power = s.power := by simp [enterHold]
@[simp] theorem enterHold_tornCount : (enterHold s).tornCount = s.tornCount := by simp [enterHold]

/-! ### joinHold -/

@[simp] theorem joinHold_clock : (joinHold s).clock = s.clock := by
  unfold joinHold
  split <;> simp
@[simp] theorem joinHold_pending : (joinHold s).pending = s.pending := by
  unfold joinHold
  split <;> simp
@[simp] theorem joinHold_scan : (joinHold s).scan = s.scan := by
  unfold joinHold
  split <;> simp
@[simp] theorem joinHold_account : (joinHold s).account = s.account := by
  unfold joinHold
  split <;> simp
@[simp] theorem joinHold_tables : (joinHold s).tables = s.tables := by
  unfold joinHold
  split <;> simp
@[simp] theorem joinHold_budget : (joinHold s).budget = s.budget := by
  unfold joinHold
  split <;> simp
@[simp] theorem joinHold_suction : (joinHold s).suction = s.suction := by
  unfold joinHold
  split <;> simp
@[simp] theorem joinHold_head : (joinHold s).head = s.head := by
  unfold joinHold
  split <;> simp
@[simp] theorem joinHold_dirt : (joinHold s).dirt = s.dirt := by
  unfold joinHold
  split <;> simp
@[simp] theorem joinHold_bin : (joinHold s).bin = s.bin := by
  unfold joinHold
  split <;> simp
@[simp] theorem joinHold_faults : (joinHold s).faults = s.faults := by
  unfold joinHold
  split <;> simp
@[simp] theorem joinHold_store : (joinHold s).store = s.store := by
  unfold joinHold
  split <;> simp
@[simp] theorem joinHold_power : (joinHold s).power = s.power := by
  unfold joinHold
  split <;> simp
@[simp] theorem joinHold_tornCount : (joinHold s).tornCount = s.tornCount := by
  unfold joinHold
  split <;> simp

/-! ### setGrants -/

@[simp] theorem setGrants_clock : (setGrants s).clock = s.clock := rfl
@[simp] theorem setGrants_pending : (setGrants s).pending = s.pending := rfl
@[simp] theorem setGrants_scan : (setGrants s).scan = s.scan := rfl
@[simp] theorem setGrants_account : (setGrants s).account = s.account := rfl
@[simp] theorem setGrants_tables : (setGrants s).tables = s.tables := rfl
@[simp] theorem setGrants_budget : (setGrants s).budget = s.budget := rfl
@[simp] theorem setGrants_suction : (setGrants s).suction = s.suction := rfl
@[simp] theorem setGrants_head : (setGrants s).head = s.head := rfl
@[simp] theorem setGrants_dirt : (setGrants s).dirt = s.dirt := rfl
@[simp] theorem setGrants_bin : (setGrants s).bin = s.bin := rfl
@[simp] theorem setGrants_faults : (setGrants s).faults = s.faults := rfl
@[simp] theorem setGrants_ports : (setGrants s).ports = s.ports := rfl
@[simp] theorem setGrants_store : (setGrants s).store = s.store := rfl
@[simp] theorem setGrants_power : (setGrants s).power = s.power := rfl
@[simp] theorem setGrants_tornCount : (setGrants s).tornCount = s.tornCount := rfl

/-! ### stageChoice -/

@[simp] theorem stageChoice_clock : (stageChoice s).clock = s.clock := by
  unfold stageChoice
  simp only []
  (repeat' split) <;> simp
@[simp] theorem stageChoice_pending : (stageChoice s).pending = s.pending := by
  unfold stageChoice
  simp only []
  (repeat' split) <;> simp
@[simp] theorem stageChoice_scan : (stageChoice s).scan = s.scan := by
  unfold stageChoice
  simp only []
  (repeat' split) <;> simp
@[simp] theorem stageChoice_account : (stageChoice s).account = s.account := by
  unfold stageChoice
  simp only []
  (repeat' split) <;> simp
@[simp] theorem stageChoice_tables : (stageChoice s).tables = s.tables := by
  unfold stageChoice
  simp only []
  (repeat' split) <;> simp
@[simp] theorem stageChoice_budget : (stageChoice s).budget = s.budget := by
  unfold stageChoice
  simp only []
  (repeat' split) <;> simp
@[simp] theorem stageChoice_suction : (stageChoice s).suction = s.suction := by
  unfold stageChoice
  simp only []
  (repeat' split) <;> simp
@[simp] theorem stageChoice_head : (stageChoice s).head = s.head := by
  unfold stageChoice
  simp only []
  (repeat' split) <;> simp
@[simp] theorem stageChoice_dirt : (stageChoice s).dirt = s.dirt := by
  unfold stageChoice
  simp only []
  (repeat' split) <;> simp
@[simp] theorem stageChoice_bin : (stageChoice s).bin = s.bin := by
  unfold stageChoice
  simp only []
  (repeat' split) <;> simp
@[simp] theorem stageChoice_faults : (stageChoice s).faults = s.faults := by
  unfold stageChoice
  simp only []
  (repeat' split) <;> simp
@[simp] theorem stageChoice_store : (stageChoice s).store = s.store := by
  unfold stageChoice
  simp only []
  (repeat' split) <;> simp
@[simp] theorem stageChoice_power : (stageChoice s).power = s.power := by
  unfold stageChoice
  simp only []
  (repeat' split) <;> simp
@[simp] theorem stageChoice_tornCount : (stageChoice s).tornCount = s.tornCount := by
  unfold stageChoice
  simp only []
  (repeat' split) <;> simp

/-! ### leaveHold -/

@[simp] theorem leaveHold_clock : (leaveHold s).clock = s.clock := by
  unfold leaveHold
  (repeat' split) <;> simp
@[simp] theorem leaveHold_pending : (leaveHold s).pending = s.pending := by
  unfold leaveHold
  (repeat' split) <;> simp
@[simp] theorem leaveHold_scan : (leaveHold s).scan = s.scan := by
  unfold leaveHold
  (repeat' split) <;> simp
@[simp] theorem leaveHold_account : (leaveHold s).account = s.account := by
  unfold leaveHold
  (repeat' split) <;> simp
@[simp] theorem leaveHold_tables : (leaveHold s).tables = s.tables := by
  unfold leaveHold
  (repeat' split) <;> simp
@[simp] theorem leaveHold_budget : (leaveHold s).budget = s.budget := by
  unfold leaveHold
  (repeat' split) <;> simp
@[simp] theorem leaveHold_suction : (leaveHold s).suction = s.suction := by
  unfold leaveHold
  (repeat' split) <;> simp
@[simp] theorem leaveHold_head : (leaveHold s).head = s.head := by
  unfold leaveHold
  (repeat' split) <;> simp
@[simp] theorem leaveHold_dirt : (leaveHold s).dirt = s.dirt := by
  unfold leaveHold
  (repeat' split) <;> simp
@[simp] theorem leaveHold_bin : (leaveHold s).bin = s.bin := by
  unfold leaveHold
  (repeat' split) <;> simp
@[simp] theorem leaveHold_faults : (leaveHold s).faults = s.faults := by
  unfold leaveHold
  (repeat' split) <;> simp
@[simp] theorem leaveHold_store : (leaveHold s).store = s.store := by
  unfold leaveHold
  (repeat' split) <;> simp
@[simp] theorem leaveHold_power : (leaveHold s).power = s.power := by
  unfold leaveHold
  (repeat' split) <;> simp
@[simp] theorem leaveHold_tornCount : (leaveHold s).tornCount = s.tornCount := by
  unfold leaveHold
  (repeat' split) <;> simp

/-! ### stopCharge -/

@[simp] theorem stopCharge_clock : (stopCharge s).clock = s.clock := by
  unfold stopCharge
  split <;> simp
@[simp] theorem stopCharge_pending : (stopCharge s).pending = s.pending := by
  unfold stopCharge
  split <;> simp
@[simp] theorem stopCharge_scan : (stopCharge s).scan = s.scan := by
  unfold stopCharge
  split <;> simp
@[simp] theorem stopCharge_account : (stopCharge s).account = s.account := by
  unfold stopCharge
  split <;> simp
@[simp] theorem stopCharge_tables : (stopCharge s).tables = s.tables := by
  unfold stopCharge
  split <;> simp
@[simp] theorem stopCharge_budget : (stopCharge s).budget = s.budget := by
  unfold stopCharge
  split <;> simp
@[simp] theorem stopCharge_suction : (stopCharge s).suction = s.suction := by
  unfold stopCharge
  split <;> simp
@[simp] theorem stopCharge_head : (stopCharge s).head = s.head := by
  unfold stopCharge
  split <;> simp
@[simp] theorem stopCharge_dirt : (stopCharge s).dirt = s.dirt := by
  unfold stopCharge
  split <;> simp
@[simp] theorem stopCharge_bin : (stopCharge s).bin = s.bin := by
  unfold stopCharge
  split <;> simp
@[simp] theorem stopCharge_faults : (stopCharge s).faults = s.faults := by
  unfold stopCharge
  split <;> simp
@[simp] theorem stopCharge_store : (stopCharge s).store = s.store := by
  unfold stopCharge
  split <;> simp
@[simp] theorem stopCharge_power : (stopCharge s).power = s.power := by
  unfold stopCharge
  split <;> simp
@[simp] theorem stopCharge_tornCount : (stopCharge s).tornCount = s.tornCount := by
  unfold stopCharge
  split <;> simp

/-! ### releaseCharge -/

@[simp] theorem releaseCharge_clock : (releaseCharge s).clock = s.clock := by
  unfold releaseCharge
  simp only []
  (repeat' split) <;> simp
@[simp] theorem releaseCharge_pending : (releaseCharge s).pending = s.pending := by
  unfold releaseCharge
  simp only []
  (repeat' split) <;> simp
@[simp] theorem releaseCharge_scan : (releaseCharge s).scan = s.scan := by
  unfold releaseCharge
  simp only []
  (repeat' split) <;> simp
@[simp] theorem releaseCharge_account : (releaseCharge s).account = s.account := by
  unfold releaseCharge
  simp only []
  (repeat' split) <;> simp
@[simp] theorem releaseCharge_tables : (releaseCharge s).tables = s.tables := by
  unfold releaseCharge
  simp only []
  (repeat' split) <;> simp
@[simp] theorem releaseCharge_budget : (releaseCharge s).budget = s.budget := by
  unfold releaseCharge
  simp only []
  (repeat' split) <;> simp
@[simp] theorem releaseCharge_suction : (releaseCharge s).suction = s.suction := by
  unfold releaseCharge
  simp only []
  (repeat' split) <;> simp
@[simp] theorem releaseCharge_head : (releaseCharge s).head = s.head := by
  unfold releaseCharge
  simp only []
  (repeat' split) <;> simp
@[simp] theorem releaseCharge_dirt : (releaseCharge s).dirt = s.dirt := by
  unfold releaseCharge
  simp only []
  (repeat' split) <;> simp
@[simp] theorem releaseCharge_bin : (releaseCharge s).bin = s.bin := by
  unfold releaseCharge
  simp only []
  (repeat' split) <;> simp
@[simp] theorem releaseCharge_faults : (releaseCharge s).faults = s.faults := by
  unfold releaseCharge
  simp only []
  (repeat' split) <;> simp
@[simp] theorem releaseCharge_store : (releaseCharge s).store = s.store := by
  unfold releaseCharge
  simp only []
  (repeat' split) <;> simp
@[simp] theorem releaseCharge_power : (releaseCharge s).power = s.power := by
  unfold releaseCharge
  simp only []
  (repeat' split) <;> simp
@[simp] theorem releaseCharge_tornCount : (releaseCharge s).tornCount = s.tornCount := by
  unfold releaseCharge
  simp only []
  (repeat' split) <;> simp

/-! ### takeDerating -/

@[simp] theorem takeDerating_clock (m : MeasurementSet) : (takeDerating m s).clock = s.clock := rfl
@[simp] theorem takeDerating_pending (m : MeasurementSet) : (takeDerating m s).pending = s.pending := rfl
@[simp] theorem takeDerating_scan (m : MeasurementSet) : (takeDerating m s).scan = s.scan := rfl
@[simp] theorem takeDerating_account (m : MeasurementSet) : (takeDerating m s).account = s.account := rfl
@[simp] theorem takeDerating_tables (m : MeasurementSet) : (takeDerating m s).tables = s.tables := rfl
@[simp] theorem takeDerating_budget (m : MeasurementSet) : (takeDerating m s).budget = s.budget := rfl
@[simp] theorem takeDerating_suction (m : MeasurementSet) : (takeDerating m s).suction = s.suction := rfl
@[simp] theorem takeDerating_head (m : MeasurementSet) : (takeDerating m s).head = s.head := rfl
@[simp] theorem takeDerating_dirt (m : MeasurementSet) : (takeDerating m s).dirt = s.dirt := rfl
@[simp] theorem takeDerating_bin (m : MeasurementSet) : (takeDerating m s).bin = s.bin := rfl
@[simp] theorem takeDerating_faults (m : MeasurementSet) : (takeDerating m s).faults = s.faults := rfl
@[simp] theorem takeDerating_ports (m : MeasurementSet) : (takeDerating m s).ports = s.ports := rfl
@[simp] theorem takeDerating_store (m : MeasurementSet) : (takeDerating m s).store = s.store := rfl
@[simp] theorem takeDerating_power (m : MeasurementSet) : (takeDerating m s).power = s.power := rfl
@[simp] theorem takeDerating_tornCount (m : MeasurementSet) : (takeDerating m s).tornCount = s.tornCount := rfl

/-! ### judgeTemp -/

@[simp] theorem judgeTemp_clock : (judgeTemp s).clock = s.clock := by
  unfold judgeTemp
  simp only []
  (repeat' split) <;> simp
@[simp] theorem judgeTemp_pending : (judgeTemp s).pending = s.pending := by
  unfold judgeTemp
  simp only []
  (repeat' split) <;> simp
@[simp] theorem judgeTemp_scan : (judgeTemp s).scan = s.scan := by
  unfold judgeTemp
  simp only []
  (repeat' split) <;> simp
@[simp] theorem judgeTemp_account : (judgeTemp s).account = s.account := by
  unfold judgeTemp
  simp only []
  (repeat' split) <;> simp
@[simp] theorem judgeTemp_tables : (judgeTemp s).tables = s.tables := by
  unfold judgeTemp
  simp only []
  (repeat' split) <;> simp
@[simp] theorem judgeTemp_budget : (judgeTemp s).budget = s.budget := by
  unfold judgeTemp
  simp only []
  (repeat' split) <;> simp
@[simp] theorem judgeTemp_suction : (judgeTemp s).suction = s.suction := by
  unfold judgeTemp
  simp only []
  (repeat' split) <;> simp
@[simp] theorem judgeTemp_head : (judgeTemp s).head = s.head := by
  unfold judgeTemp
  simp only []
  (repeat' split) <;> simp
@[simp] theorem judgeTemp_dirt : (judgeTemp s).dirt = s.dirt := by
  unfold judgeTemp
  simp only []
  (repeat' split) <;> simp
@[simp] theorem judgeTemp_bin : (judgeTemp s).bin = s.bin := by
  unfold judgeTemp
  simp only []
  (repeat' split) <;> simp
@[simp] theorem judgeTemp_faults : (judgeTemp s).faults = s.faults := by
  unfold judgeTemp
  simp only []
  (repeat' split) <;> simp
@[simp] theorem judgeTemp_store : (judgeTemp s).store = s.store := by
  unfold judgeTemp
  simp only []
  (repeat' split) <;> simp
@[simp] theorem judgeTemp_power : (judgeTemp s).power = s.power := by
  unfold judgeTemp
  simp only []
  (repeat' split) <;> simp
@[simp] theorem judgeTemp_tornCount : (judgeTemp s).tornCount = s.tornCount := by
  unfold judgeTemp
  simp only []
  (repeat' split) <;> simp

/-! ### leaveNegotiating -/

@[simp] theorem leaveNegotiating_clock : (leaveNegotiating s).clock = s.clock := by
  unfold leaveNegotiating
  split <;> simp
@[simp] theorem leaveNegotiating_pending : (leaveNegotiating s).pending = s.pending := by
  unfold leaveNegotiating
  split <;> simp
@[simp] theorem leaveNegotiating_scan : (leaveNegotiating s).scan = s.scan := by
  unfold leaveNegotiating
  split <;> simp
@[simp] theorem leaveNegotiating_account : (leaveNegotiating s).account = s.account := by
  unfold leaveNegotiating
  split <;> simp
@[simp] theorem leaveNegotiating_tables : (leaveNegotiating s).tables = s.tables := by
  unfold leaveNegotiating
  split <;> simp
@[simp] theorem leaveNegotiating_budget : (leaveNegotiating s).budget = s.budget := by
  unfold leaveNegotiating
  split <;> simp
@[simp] theorem leaveNegotiating_suction : (leaveNegotiating s).suction = s.suction := by
  unfold leaveNegotiating
  split <;> simp
@[simp] theorem leaveNegotiating_head : (leaveNegotiating s).head = s.head := by
  unfold leaveNegotiating
  split <;> simp
@[simp] theorem leaveNegotiating_dirt : (leaveNegotiating s).dirt = s.dirt := by
  unfold leaveNegotiating
  split <;> simp
@[simp] theorem leaveNegotiating_bin : (leaveNegotiating s).bin = s.bin := by
  unfold leaveNegotiating
  split <;> simp
@[simp] theorem leaveNegotiating_faults : (leaveNegotiating s).faults = s.faults := by
  unfold leaveNegotiating
  split <;> simp
@[simp] theorem leaveNegotiating_store : (leaveNegotiating s).store = s.store := by
  unfold leaveNegotiating
  split <;> simp
@[simp] theorem leaveNegotiating_power : (leaveNegotiating s).power = s.power := by
  unfold leaveNegotiating
  split <;> simp
@[simp] theorem leaveNegotiating_tornCount : (leaveNegotiating s).tornCount = s.tornCount := by
  unfold leaveNegotiating
  split <;> simp

/-! ### requestComputation -/

@[simp] theorem requestComputation_clock : (requestComputation s).clock = s.clock := by
  unfold requestComputation
  split <;> simp
@[simp] theorem requestComputation_pending : (requestComputation s).pending = s.pending := by
  unfold requestComputation
  split <;> simp
@[simp] theorem requestComputation_scan : (requestComputation s).scan = s.scan := by
  unfold requestComputation
  split <;> simp
@[simp] theorem requestComputation_account : (requestComputation s).account = s.account := by
  unfold requestComputation
  split <;> simp
@[simp] theorem requestComputation_tables : (requestComputation s).tables = s.tables := by
  unfold requestComputation
  split <;> simp
@[simp] theorem requestComputation_budget : (requestComputation s).budget = s.budget := by
  unfold requestComputation
  split <;> simp
@[simp] theorem requestComputation_suction : (requestComputation s).suction = s.suction := by
  unfold requestComputation
  split <;> simp
@[simp] theorem requestComputation_head : (requestComputation s).head = s.head := by
  unfold requestComputation
  split <;> simp
@[simp] theorem requestComputation_dirt : (requestComputation s).dirt = s.dirt := by
  unfold requestComputation
  split <;> simp
@[simp] theorem requestComputation_bin : (requestComputation s).bin = s.bin := by
  unfold requestComputation
  split <;> simp
@[simp] theorem requestComputation_faults : (requestComputation s).faults = s.faults := by
  unfold requestComputation
  split <;> simp
@[simp] theorem requestComputation_store : (requestComputation s).store = s.store := by
  unfold requestComputation
  split <;> simp
@[simp] theorem requestComputation_power : (requestComputation s).power = s.power := by
  unfold requestComputation
  split <;> simp
@[simp] theorem requestComputation_tornCount : (requestComputation s).tornCount = s.tornCount := by
  unfold requestComputation
  split <;> simp

end Sys2Proof.Machine
end

