-- ==== Sys2Proof/Laws/FrameFault.lean ====
section
/-! SUPPORT. What each shared operation leaves unchanged: one lemma per operation and per block it does not write. -/

namespace Sys2Proof.Machine

variable (s : State)

/-! ### applyActions -/

@[simp] theorem applyActions_clock (b : List FaultEntry) : (applyActions b s).clock = s.clock := by
  unfold applyActions
  simp only []
  (repeat' split) <;> simp
@[simp] theorem applyActions_pending (b : List FaultEntry) : (applyActions b s).pending = s.pending := by
  unfold applyActions
  simp only []
  (repeat' split) <;> simp
@[simp] theorem applyActions_scan (b : List FaultEntry) : (applyActions b s).scan = s.scan := by
  unfold applyActions
  simp only []
  (repeat' split) <;> simp
@[simp] theorem applyActions_account (b : List FaultEntry) : (applyActions b s).account = s.account := by
  unfold applyActions
  simp only []
  (repeat' split) <;> simp
@[simp] theorem applyActions_tables (b : List FaultEntry) : (applyActions b s).tables = s.tables := by
  unfold applyActions
  simp only []
  (repeat' split) <;> simp
@[simp] theorem applyActions_budget (b : List FaultEntry) : (applyActions b s).budget = s.budget := by
  unfold applyActions
  simp only []
  (repeat' split) <;> simp
@[simp] theorem applyActions_head (b : List FaultEntry) : (applyActions b s).head = s.head := by
  unfold applyActions
  simp only []
  (repeat' split) <;> simp
@[simp] theorem applyActions_bin (b : List FaultEntry) : (applyActions b s).bin = s.bin := by
  unfold applyActions
  simp only []
  (repeat' split) <;> simp
@[simp] theorem applyActions_faults (b : List FaultEntry) : (applyActions b s).faults = s.faults := by
  unfold applyActions
  simp only []
  (repeat' split) <;> simp
@[simp] theorem applyActions_store (b : List FaultEntry) : (applyActions b s).store = s.store := by
  unfold applyActions
  simp only []
  (repeat' split) <;> simp
@[simp] theorem applyActions_power (b : List FaultEntry) : (applyActions b s).power = s.power := by
  unfold applyActions
  simp only []
  (repeat' split) <;> simp
@[simp] theorem applyActions_tornCount (b : List FaultEntry) : (applyActions b s).tornCount = s.tornCount := by
  unfold applyActions
  simp only []
  (repeat' split) <;> simp

/-! ### setEntries -/

@[simp] theorem setEntries_clock (l : List FaultEntry) : (setEntries l s).clock = s.clock := by simp [setEntries]
@[simp] theorem setEntries_pending (l : List FaultEntry) : (setEntries l s).pending = s.pending := by simp [setEntries]
@[simp] theorem setEntries_scan (l : List FaultEntry) : (setEntries l s).scan = s.scan := by simp [setEntries]
@[simp] theorem setEntries_account (l : List FaultEntry) : (setEntries l s).account = s.account := by simp [setEntries]
@[simp] theorem setEntries_tables (l : List FaultEntry) : (setEntries l s).tables = s.tables := by simp [setEntries]
@[simp] theorem setEntries_budget (l : List FaultEntry) : (setEntries l s).budget = s.budget := by simp [setEntries]
@[simp] theorem setEntries_head (l : List FaultEntry) : (setEntries l s).head = s.head := by simp [setEntries]
@[simp] theorem setEntries_bin (l : List FaultEntry) : (setEntries l s).bin = s.bin := by simp [setEntries]
@[simp] theorem setEntries_store (l : List FaultEntry) : (setEntries l s).store = s.store := by simp [setEntries]
@[simp] theorem setEntries_power (l : List FaultEntry) : (setEntries l s).power = s.power := by simp [setEntries]
@[simp] theorem setEntries_tornCount (l : List FaultEntry) : (setEntries l s).tornCount = s.tornCount := by simp [setEntries]

/-! ### setEntry -/

@[simp] theorem setEntry_clock (n : Nat) (e : FaultEntry) : (setEntry n e s).clock = s.clock := by simp [setEntry]
@[simp] theorem setEntry_pending (n : Nat) (e : FaultEntry) : (setEntry n e s).pending = s.pending := by simp [setEntry]
@[simp] theorem setEntry_scan (n : Nat) (e : FaultEntry) : (setEntry n e s).scan = s.scan := by simp [setEntry]
@[simp] theorem setEntry_account (n : Nat) (e : FaultEntry) : (setEntry n e s).account = s.account := by simp [setEntry]
@[simp] theorem setEntry_tables (n : Nat) (e : FaultEntry) : (setEntry n e s).tables = s.tables := by simp [setEntry]
@[simp] theorem setEntry_budget (n : Nat) (e : FaultEntry) : (setEntry n e s).budget = s.budget := by simp [setEntry]
@[simp] theorem setEntry_head (n : Nat) (e : FaultEntry) : (setEntry n e s).head = s.head := by simp [setEntry]
@[simp] theorem setEntry_bin (n : Nat) (e : FaultEntry) : (setEntry n e s).bin = s.bin := by simp [setEntry]
@[simp] theorem setEntry_store (n : Nat) (e : FaultEntry) : (setEntry n e s).store = s.store := by simp [setEntry]
@[simp] theorem setEntry_power (n : Nat) (e : FaultEntry) : (setEntry n e s).power = s.power := by simp [setEntry]
@[simp] theorem setEntry_tornCount (n : Nat) (e : FaultEntry) : (setEntry n e s).tornCount = s.tornCount := by simp [setEntry]

/-! ### oneShot -/

@[simp] theorem oneShot_clock (n : Nat) (v : Int) : (oneShot n v s).clock = s.clock := by
  unfold oneShot
  split <;> simp
@[simp] theorem oneShot_pending (n : Nat) (v : Int) : (oneShot n v s).pending = s.pending := by
  unfold oneShot
  split <;> simp
@[simp] theorem oneShot_scan (n : Nat) (v : Int) : (oneShot n v s).scan = s.scan := by
  unfold oneShot
  split <;> simp
@[simp] theorem oneShot_account (n : Nat) (v : Int) : (oneShot n v s).account = s.account := by
  unfold oneShot
  split <;> simp
@[simp] theorem oneShot_tables (n : Nat) (v : Int) : (oneShot n v s).tables = s.tables := by
  unfold oneShot
  split <;> simp
@[simp] theorem oneShot_budget (n : Nat) (v : Int) : (oneShot n v s).budget = s.budget := by
  unfold oneShot
  split <;> simp
@[simp] theorem oneShot_head (n : Nat) (v : Int) : (oneShot n v s).head = s.head := by
  unfold oneShot
  split <;> simp
@[simp] theorem oneShot_bin (n : Nat) (v : Int) : (oneShot n v s).bin = s.bin := by
  unfold oneShot
  split <;> simp
@[simp] theorem oneShot_store (n : Nat) (v : Int) : (oneShot n v s).store = s.store := by
  unfold oneShot
  split <;> simp
@[simp] theorem oneShot_power (n : Nat) (v : Int) : (oneShot n v s).power = s.power := by
  unfold oneShot
  split <;> simp
@[simp] theorem oneShot_tornCount (n : Nat) (v : Int) : (oneShot n v s).tornCount = s.tornCount := by
  unfold oneShot
  split <;> simp

/-! ### judgeFaults -/

@[simp] theorem judgeFaults_clock (m : MeasurementSet) : (judgeFaults m s).clock = s.clock := by simp [judgeFaults]
@[simp] theorem judgeFaults_pending (m : MeasurementSet) : (judgeFaults m s).pending = s.pending := by simp [judgeFaults]
@[simp] theorem judgeFaults_scan (m : MeasurementSet) : (judgeFaults m s).scan = s.scan := by simp [judgeFaults]
@[simp] theorem judgeFaults_account (m : MeasurementSet) : (judgeFaults m s).account = s.account := by simp [judgeFaults]
@[simp] theorem judgeFaults_tables (m : MeasurementSet) : (judgeFaults m s).tables = s.tables := by simp [judgeFaults]
@[simp] theorem judgeFaults_budget (m : MeasurementSet) : (judgeFaults m s).budget = s.budget := by simp [judgeFaults]
@[simp] theorem judgeFaults_head (m : MeasurementSet) : (judgeFaults m s).head = s.head := by simp [judgeFaults]
@[simp] theorem judgeFaults_bin (m : MeasurementSet) : (judgeFaults m s).bin = s.bin := by simp [judgeFaults]
@[simp] theorem judgeFaults_store (m : MeasurementSet) : (judgeFaults m s).store = s.store := by simp [judgeFaults]
@[simp] theorem judgeFaults_power (m : MeasurementSet) : (judgeFaults m s).power = s.power := by simp [judgeFaults]
@[simp] theorem judgeFaults_tornCount (m : MeasurementSet) : (judgeFaults m s).tornCount = s.tornCount := by simp [judgeFaults]

end Sys2Proof.Machine
end

