-- ==== Sys2Proof/Laws/FrameBudget.lean ====
section
/-! SUPPORT. What each shared operation leaves unchanged: one lemma per operation and per block it does not write. -/

namespace Sys2Proof.Machine

variable (s : State)

/-! ### followGrant -/

@[simp] theorem followGrant_clock : (followGrant s).clock = s.clock := by
  unfold followGrant
  split <;> simp
@[simp] theorem followGrant_pending : (followGrant s).pending = s.pending := by
  unfold followGrant
  split <;> simp
@[simp] theorem followGrant_scan : (followGrant s).scan = s.scan := by
  unfold followGrant
  split <;> simp
@[simp] theorem followGrant_account : (followGrant s).account = s.account := by
  unfold followGrant
  split <;> simp
@[simp] theorem followGrant_tables : (followGrant s).tables = s.tables := by
  unfold followGrant
  split <;> simp
@[simp] theorem followGrant_budget : (followGrant s).budget = s.budget := by
  unfold followGrant
  split <;> simp
@[simp] theorem followGrant_head : (followGrant s).head = s.head := by
  unfold followGrant
  split <;> simp
@[simp] theorem followGrant_dirt : (followGrant s).dirt = s.dirt := by
  unfold followGrant
  split <;> simp
@[simp] theorem followGrant_bin : (followGrant s).bin = s.bin := by
  unfold followGrant
  split <;> simp
@[simp] theorem followGrant_charge : (followGrant s).charge = s.charge := by
  unfold followGrant
  split <;> simp
@[simp] theorem followGrant_faults : (followGrant s).faults = s.faults := by
  unfold followGrant
  split <;> simp
@[simp] theorem followGrant_ports : (followGrant s).ports = s.ports := by
  unfold followGrant
  split <;> simp
@[simp] theorem followGrant_store : (followGrant s).store = s.store := by
  unfold followGrant
  split <;> simp
@[simp] theorem followGrant_power : (followGrant s).power = s.power := by
  unfold followGrant
  split <;> simp
@[simp] theorem followGrant_tornCount : (followGrant s).tornCount = s.tornCount := by
  unfold followGrant
  split <;> simp

/-! ### evaluateBudget -/

@[simp] theorem evaluateBudget_clock (m : MeasurementSet) : (evaluateBudget m s).clock = s.clock := by
  unfold evaluateBudget
  simp only []
  (repeat' split) <;> simp
@[simp] theorem evaluateBudget_pending (m : MeasurementSet) : (evaluateBudget m s).pending = s.pending := by
  unfold evaluateBudget
  simp only []
  (repeat' split) <;> simp
@[simp] theorem evaluateBudget_scan (m : MeasurementSet) : (evaluateBudget m s).scan = s.scan := by
  unfold evaluateBudget
  simp only []
  (repeat' split) <;> simp
@[simp] theorem evaluateBudget_account (m : MeasurementSet) : (evaluateBudget m s).account = s.account := by
  unfold evaluateBudget
  simp only []
  (repeat' split) <;> simp
@[simp] theorem evaluateBudget_tables (m : MeasurementSet) : (evaluateBudget m s).tables = s.tables := by
  unfold evaluateBudget
  simp only []
  (repeat' split) <;> simp
@[simp] theorem evaluateBudget_bin (m : MeasurementSet) : (evaluateBudget m s).bin = s.bin := by
  unfold evaluateBudget
  simp only []
  (repeat' split) <;> simp
@[simp] theorem evaluateBudget_charge (m : MeasurementSet) : (evaluateBudget m s).charge = s.charge := by
  unfold evaluateBudget
  simp only []
  (repeat' split) <;> simp
@[simp] theorem evaluateBudget_faults (m : MeasurementSet) : (evaluateBudget m s).faults = s.faults := by
  unfold evaluateBudget
  simp only []
  (repeat' split) <;> simp
@[simp] theorem evaluateBudget_store (m : MeasurementSet) : (evaluateBudget m s).store = s.store := by
  unfold evaluateBudget
  simp only []
  (repeat' split) <;> simp
@[simp] theorem evaluateBudget_power (m : MeasurementSet) : (evaluateBudget m s).power = s.power := by
  unfold evaluateBudget
  simp only []
  (repeat' split) <;> simp
@[simp] theorem evaluateBudget_tornCount (m : MeasurementSet) : (evaluateBudget m s).tornCount = s.tornCount := by
  unfold evaluateBudget
  simp only []
  (repeat' split) <;> simp

/-! ### refreshRuntime -/

@[simp] theorem refreshRuntime_clock (m : MeasurementSet) : (refreshRuntime m s).clock = s.clock := rfl
@[simp] theorem refreshRuntime_pending (m : MeasurementSet) : (refreshRuntime m s).pending = s.pending := rfl
@[simp] theorem refreshRuntime_scan (m : MeasurementSet) : (refreshRuntime m s).scan = s.scan := rfl
@[simp] theorem refreshRuntime_account (m : MeasurementSet) : (refreshRuntime m s).account = s.account := rfl
@[simp] theorem refreshRuntime_tables (m : MeasurementSet) : (refreshRuntime m s).tables = s.tables := rfl
@[simp] theorem refreshRuntime_suction (m : MeasurementSet) : (refreshRuntime m s).suction = s.suction := rfl
@[simp] theorem refreshRuntime_head (m : MeasurementSet) : (refreshRuntime m s).head = s.head := rfl
@[simp] theorem refreshRuntime_dirt (m : MeasurementSet) : (refreshRuntime m s).dirt = s.dirt := rfl
@[simp] theorem refreshRuntime_bin (m : MeasurementSet) : (refreshRuntime m s).bin = s.bin := rfl
@[simp] theorem refreshRuntime_charge (m : MeasurementSet) : (refreshRuntime m s).charge = s.charge := rfl
@[simp] theorem refreshRuntime_faults (m : MeasurementSet) : (refreshRuntime m s).faults = s.faults := rfl
@[simp] theorem refreshRuntime_ports (m : MeasurementSet) : (refreshRuntime m s).ports = s.ports := rfl
@[simp] theorem refreshRuntime_store (m : MeasurementSet) : (refreshRuntime m s).store = s.store := rfl
@[simp] theorem refreshRuntime_power (m : MeasurementSet) : (refreshRuntime m s).power = s.power := rfl
@[simp] theorem refreshRuntime_tornCount (m : MeasurementSet) : (refreshRuntime m s).tornCount = s.tornCount := rfl

/-! ### budgetLeaveActive -/

@[simp] theorem budgetLeaveActive_clock : (budgetLeaveActive s).clock = s.clock := rfl
@[simp] theorem budgetLeaveActive_pending : (budgetLeaveActive s).pending = s.pending := rfl
@[simp] theorem budgetLeaveActive_scan : (budgetLeaveActive s).scan = s.scan := rfl
@[simp] theorem budgetLeaveActive_account : (budgetLeaveActive s).account = s.account := rfl
@[simp] theorem budgetLeaveActive_tables : (budgetLeaveActive s).tables = s.tables := rfl
@[simp] theorem budgetLeaveActive_suction : (budgetLeaveActive s).suction = s.suction := rfl
@[simp] theorem budgetLeaveActive_head : (budgetLeaveActive s).head = s.head := rfl
@[simp] theorem budgetLeaveActive_dirt : (budgetLeaveActive s).dirt = s.dirt := rfl
@[simp] theorem budgetLeaveActive_bin : (budgetLeaveActive s).bin = s.bin := rfl
@[simp] theorem budgetLeaveActive_charge : (budgetLeaveActive s).charge = s.charge := rfl
@[simp] theorem budgetLeaveActive_faults : (budgetLeaveActive s).faults = s.faults := rfl
@[simp] theorem budgetLeaveActive_ports : (budgetLeaveActive s).ports = s.ports := rfl
@[simp] theorem budgetLeaveActive_store : (budgetLeaveActive s).store = s.store := rfl
@[simp] theorem budgetLeaveActive_power : (budgetLeaveActive s).power = s.power := rfl
@[simp] theorem budgetLeaveActive_tornCount : (budgetLeaveActive s).tornCount = s.tornCount := rfl

end Sys2Proof.Machine
end

