-- ==== Sys2Proof/Laws/FrameAccount.lean ====
section
/-! SUPPORT. What each shared operation leaves unchanged: one lemma per operation and per block it does not write. -/

namespace Sys2Proof.Machine

variable (s : State)

/-! ### publish -/

@[simp] theorem publish_clock (m : MeasurementSet) : (publish m s).clock = s.clock := rfl
@[simp] theorem publish_pending (m : MeasurementSet) : (publish m s).pending = s.pending := rfl
@[simp] theorem publish_account (m : MeasurementSet) : (publish m s).account = s.account := rfl
@[simp] theorem publish_tables (m : MeasurementSet) : (publish m s).tables = s.tables := rfl
@[simp] theorem publish_budget (m : MeasurementSet) : (publish m s).budget = s.budget := rfl
@[simp] theorem publish_suction (m : MeasurementSet) : (publish m s).suction = s.suction := rfl
@[simp] theorem publish_head (m : MeasurementSet) : (publish m s).head = s.head := rfl
@[simp] theorem publish_dirt (m : MeasurementSet) : (publish m s).dirt = s.dirt := rfl
@[simp] theorem publish_bin (m : MeasurementSet) : (publish m s).bin = s.bin := rfl
@[simp] theorem publish_charge (m : MeasurementSet) : (publish m s).charge = s.charge := rfl
@[simp] theorem publish_faults (m : MeasurementSet) : (publish m s).faults = s.faults := rfl
@[simp] theorem publish_ports (m : MeasurementSet) : (publish m s).ports = s.ports := rfl
@[simp] theorem publish_store (m : MeasurementSet) : (publish m s).store = s.store := rfl
@[simp] theorem publish_power (m : MeasurementSet) : (publish m s).power = s.power := rfl
@[simp] theorem publish_tornCount (m : MeasurementSet) : (publish m s).tornCount = s.tornCount := rfl

/-! ### accountScan -/

@[simp] theorem accountScan_clock (k : Counting) (m : MeasurementSet) : (accountScan k m s).clock = s.clock := by simp [accountScan]
@[simp] theorem accountScan_pending (k : Counting) (m : MeasurementSet) : (accountScan k m s).pending = s.pending := by simp [accountScan]
@[simp] theorem accountScan_scan (k : Counting) (m : MeasurementSet) : (accountScan k m s).scan = s.scan := by simp [accountScan]
@[simp] theorem accountScan_tables (k : Counting) (m : MeasurementSet) : (accountScan k m s).tables = s.tables := by simp [accountScan]
@[simp] theorem accountScan_budget (k : Counting) (m : MeasurementSet) : (accountScan k m s).budget = s.budget := by simp [accountScan]
@[simp] theorem accountScan_suction (k : Counting) (m : MeasurementSet) : (accountScan k m s).suction = s.suction := by simp [accountScan]
@[simp] theorem accountScan_head (k : Counting) (m : MeasurementSet) : (accountScan k m s).head = s.head := by simp [accountScan]
@[simp] theorem accountScan_dirt (k : Counting) (m : MeasurementSet) : (accountScan k m s).dirt = s.dirt := by simp [accountScan]
@[simp] theorem accountScan_bin (k : Counting) (m : MeasurementSet) : (accountScan k m s).bin = s.bin := by simp [accountScan]
@[simp] theorem accountScan_charge (k : Counting) (m : MeasurementSet) : (accountScan k m s).charge = s.charge := by simp [accountScan]
@[simp] theorem accountScan_faults (k : Counting) (m : MeasurementSet) : (accountScan k m s).faults = s.faults := by simp [accountScan]
@[simp] theorem accountScan_ports (k : Counting) (m : MeasurementSet) : (accountScan k m s).ports = s.ports := by simp [accountScan]
@[simp] theorem accountScan_power (k : Counting) (m : MeasurementSet) : (accountScan k m s).power = s.power := by simp [accountScan]
@[simp] theorem accountScan_tornCount (k : Counting) (m : MeasurementSet) : (accountScan k m s).tornCount = s.tornCount := by simp [accountScan]

end Sys2Proof.Machine
end

