-- ==== Sys2Proof/Laws/FrameBin.lean ====
section
/-! SUPPORT. What each shared operation leaves unchanged: one lemma per operation and per block it does not write. -/

namespace Sys2Proof.Machine

variable (s : State)

/-! ### fillEvents -/

@[simp] theorem fillEvents_clock (a b : Nat) : (fillEvents a b s).clock = s.clock := by simp [fillEvents]
@[simp] theorem fillEvents_pending (a b : Nat) : (fillEvents a b s).pending = s.pending := by simp [fillEvents]
@[simp] theorem fillEvents_scan (a b : Nat) : (fillEvents a b s).scan = s.scan := by simp [fillEvents]
@[simp] theorem fillEvents_account (a b : Nat) : (fillEvents a b s).account = s.account := by simp [fillEvents]
@[simp] theorem fillEvents_tables (a b : Nat) : (fillEvents a b s).tables = s.tables := by simp [fillEvents]
@[simp] theorem fillEvents_budget (a b : Nat) : (fillEvents a b s).budget = s.budget := by simp [fillEvents]
@[simp] theorem fillEvents_suction (a b : Nat) : (fillEvents a b s).suction = s.suction := by simp [fillEvents]
@[simp] theorem fillEvents_head (a b : Nat) : (fillEvents a b s).head = s.head := by simp [fillEvents]
@[simp] theorem fillEvents_dirt (a b : Nat) : (fillEvents a b s).dirt = s.dirt := by simp [fillEvents]
@[simp] theorem fillEvents_bin (a b : Nat) : (fillEvents a b s).bin = s.bin := by simp [fillEvents]
@[simp] theorem fillEvents_charge (a b : Nat) : (fillEvents a b s).charge = s.charge := by simp [fillEvents]
@[simp] theorem fillEvents_faults (a b : Nat) : (fillEvents a b s).faults = s.faults := by simp [fillEvents]
@[simp] theorem fillEvents_store (a b : Nat) : (fillEvents a b s).store = s.store := by simp [fillEvents]
@[simp] theorem fillEvents_power (a b : Nat) : (fillEvents a b s).power = s.power := by simp [fillEvents]
@[simp] theorem fillEvents_tornCount (a b : Nat) : (fillEvents a b s).tornCount = s.tornCount := by simp [fillEvents]

/-! ### setFill -/

@[simp] theorem setFill_clock (f g : Nat) : (setFill f g s).clock = s.clock := by simp [setFill]
@[simp] theorem setFill_pending (f g : Nat) : (setFill f g s).pending = s.pending := by simp [setFill]
@[simp] theorem setFill_scan (f g : Nat) : (setFill f g s).scan = s.scan := by simp [setFill]
@[simp] theorem setFill_account (f g : Nat) : (setFill f g s).account = s.account := by simp [setFill]
@[simp] theorem setFill_tables (f g : Nat) : (setFill f g s).tables = s.tables := by simp [setFill]
@[simp] theorem setFill_budget (f g : Nat) : (setFill f g s).budget = s.budget := by simp [setFill]
@[simp] theorem setFill_suction (f g : Nat) : (setFill f g s).suction = s.suction := by simp [setFill]
@[simp] theorem setFill_head (f g : Nat) : (setFill f g s).head = s.head := by simp [setFill]
@[simp] theorem setFill_dirt (f g : Nat) : (setFill f g s).dirt = s.dirt := by simp [setFill]
@[simp] theorem setFill_charge (f g : Nat) : (setFill f g s).charge = s.charge := by simp [setFill]
@[simp] theorem setFill_faults (f g : Nat) : (setFill f g s).faults = s.faults := by simp [setFill]
@[simp] theorem setFill_store (f g : Nat) : (setFill f g s).store = s.store := by simp [setFill]
@[simp] theorem setFill_power (f g : Nat) : (setFill f g s).power = s.power := by simp [setFill]
@[simp] theorem setFill_tornCount (f g : Nat) : (setFill f g s).tornCount = s.tornCount := by simp [setFill]

/-! ### changeF -/

@[simp] theorem changeF_clock (f : Nat) (a : Bool) : (changeF f a s).clock = s.clock := by simp [changeF]
@[simp] theorem changeF_pending (f : Nat) (a : Bool) : (changeF f a s).pending = s.pending := by simp [changeF]
@[simp] theorem changeF_scan (f : Nat) (a : Bool) : (changeF f a s).scan = s.scan := by simp [changeF]
@[simp] theorem changeF_account (f : Nat) (a : Bool) : (changeF f a s).account = s.account := by simp [changeF]
@[simp] theorem changeF_tables (f : Nat) (a : Bool) : (changeF f a s).tables = s.tables := by simp [changeF]
@[simp] theorem changeF_budget (f : Nat) (a : Bool) : (changeF f a s).budget = s.budget := by simp [changeF]
@[simp] theorem changeF_suction (f : Nat) (a : Bool) : (changeF f a s).suction = s.suction := by simp [changeF]
@[simp] theorem changeF_head (f : Nat) (a : Bool) : (changeF f a s).head = s.head := by simp [changeF]
@[simp] theorem changeF_dirt (f : Nat) (a : Bool) : (changeF f a s).dirt = s.dirt := by simp [changeF]
@[simp] theorem changeF_charge (f : Nat) (a : Bool) : (changeF f a s).charge = s.charge := by simp [changeF]
@[simp] theorem changeF_faults (f : Nat) (a : Bool) : (changeF f a s).faults = s.faults := by simp [changeF]
@[simp] theorem changeF_power (f : Nat) (a : Bool) : (changeF f a s).power = s.power := by simp [changeF]
@[simp] theorem changeF_tornCount (f : Nat) (a : Bool) : (changeF f a s).tornCount = s.tornCount := by simp [changeF]

/-! ### creditWindow -/

@[simp] theorem creditWindow_clock (f c : Nat) : (creditWindow f c s).clock = s.clock := by simp [creditWindow]
@[simp] theorem creditWindow_pending (f c : Nat) : (creditWindow f c s).pending = s.pending := by simp [creditWindow]
@[simp] theorem creditWindow_scan (f c : Nat) : (creditWindow f c s).scan = s.scan := by simp [creditWindow]
@[simp] theorem creditWindow_account (f c : Nat) : (creditWindow f c s).account = s.account := by simp [creditWindow]
@[simp] theorem creditWindow_tables (f c : Nat) : (creditWindow f c s).tables = s.tables := by simp [creditWindow]
@[simp] theorem creditWindow_budget (f c : Nat) : (creditWindow f c s).budget = s.budget := by simp [creditWindow]
@[simp] theorem creditWindow_suction (f c : Nat) : (creditWindow f c s).suction = s.suction := by simp [creditWindow]
@[simp] theorem creditWindow_head (f c : Nat) : (creditWindow f c s).head = s.head := by simp [creditWindow]
@[simp] theorem creditWindow_dirt (f c : Nat) : (creditWindow f c s).dirt = s.dirt := by simp [creditWindow]
@[simp] theorem creditWindow_charge (f c : Nat) : (creditWindow f c s).charge = s.charge := by simp [creditWindow]
@[simp] theorem creditWindow_faults (f c : Nat) : (creditWindow f c s).faults = s.faults := by simp [creditWindow]
@[simp] theorem creditWindow_power (f c : Nat) : (creditWindow f c s).power = s.power := by simp [creditWindow]
@[simp] theorem creditWindow_tornCount (f c : Nat) : (creditWindow f c s).tornCount = s.tornCount := by simp [creditWindow]

/-! ### setEvac -/

@[simp] theorem setEvac_clock (e : EvacState) : (setEvac e s).clock = s.clock := by
  unfold setEvac
  split <;> simp
@[simp] theorem setEvac_pending (e : EvacState) : (setEvac e s).pending = s.pending := by
  unfold setEvac
  split <;> simp
@[simp] theorem setEvac_scan (e : EvacState) : (setEvac e s).scan = s.scan := by
  unfold setEvac
  split <;> simp
@[simp] theorem setEvac_account (e : EvacState) : (setEvac e s).account = s.account := by
  unfold setEvac
  split <;> simp
@[simp] theorem setEvac_tables (e : EvacState) : (setEvac e s).tables = s.tables := by
  unfold setEvac
  split <;> simp
@[simp] theorem setEvac_budget (e : EvacState) : (setEvac e s).budget = s.budget := by
  unfold setEvac
  split <;> simp
@[simp] theorem setEvac_suction (e : EvacState) : (setEvac e s).suction = s.suction := by
  unfold setEvac
  split <;> simp
@[simp] theorem setEvac_head (e : EvacState) : (setEvac e s).head = s.head := by
  unfold setEvac
  split <;> simp
@[simp] theorem setEvac_dirt (e : EvacState) : (setEvac e s).dirt = s.dirt := by
  unfold setEvac
  split <;> simp
@[simp] theorem setEvac_charge (e : EvacState) : (setEvac e s).charge = s.charge := by
  unfold setEvac
  split <;> simp
@[simp] theorem setEvac_faults (e : EvacState) : (setEvac e s).faults = s.faults := by
  unfold setEvac
  split <;> simp
@[simp] theorem setEvac_store (e : EvacState) : (setEvac e s).store = s.store := by
  unfold setEvac
  split <;> simp
@[simp] theorem setEvac_power (e : EvacState) : (setEvac e s).power = s.power := by
  unfold setEvac
  split <;> simp
@[simp] theorem setEvac_tornCount (e : EvacState) : (setEvac e s).tornCount = s.tornCount := by
  unfold setEvac
  split <;> simp

/-! ### closeEvac -/

@[simp] theorem closeEvac_clock (o : EvacOutcome) (c : EvacCause) : (closeEvac o c s).clock = s.clock := by simp [closeEvac]
@[simp] theorem closeEvac_pending (o : EvacOutcome) (c : EvacCause) : (closeEvac o c s).pending = s.pending := by simp [closeEvac]
@[simp] theorem closeEvac_scan (o : EvacOutcome) (c : EvacCause) : (closeEvac o c s).scan = s.scan := by simp [closeEvac]
@[simp] theorem closeEvac_account (o : EvacOutcome) (c : EvacCause) : (closeEvac o c s).account = s.account := by simp [closeEvac]
@[simp] theorem closeEvac_tables (o : EvacOutcome) (c : EvacCause) : (closeEvac o c s).tables = s.tables := by simp [closeEvac]
@[simp] theorem closeEvac_budget (o : EvacOutcome) (c : EvacCause) : (closeEvac o c s).budget = s.budget := by simp [closeEvac]
@[simp] theorem closeEvac_suction (o : EvacOutcome) (c : EvacCause) : (closeEvac o c s).suction = s.suction := by simp [closeEvac]
@[simp] theorem closeEvac_head (o : EvacOutcome) (c : EvacCause) : (closeEvac o c s).head = s.head := by simp [closeEvac]
@[simp] theorem closeEvac_dirt (o : EvacOutcome) (c : EvacCause) : (closeEvac o c s).dirt = s.dirt := by simp [closeEvac]
@[simp] theorem closeEvac_charge (o : EvacOutcome) (c : EvacCause) : (closeEvac o c s).charge = s.charge := by simp [closeEvac]
@[simp] theorem closeEvac_faults (o : EvacOutcome) (c : EvacCause) : (closeEvac o c s).faults = s.faults := by simp [closeEvac]
@[simp] theorem closeEvac_store (o : EvacOutcome) (c : EvacCause) : (closeEvac o c s).store = s.store := by simp [closeEvac]
@[simp] theorem closeEvac_power (o : EvacOutcome) (c : EvacCause) : (closeEvac o c s).power = s.power := by simp [closeEvac]
@[simp] theorem closeEvac_tornCount (o : EvacOutcome) (c : EvacCause) : (closeEvac o c s).tornCount = s.tornCount := by simp [closeEvac]

/-! ### afterEvac -/

@[simp] theorem afterEvac_clock : (afterEvac s).clock = s.clock := by simp [afterEvac]
@[simp] theorem afterEvac_pending : (afterEvac s).pending = s.pending := by simp [afterEvac]
@[simp] theorem afterEvac_scan : (afterEvac s).scan = s.scan := by simp [afterEvac]
@[simp] theorem afterEvac_account : (afterEvac s).account = s.account := by simp [afterEvac]
@[simp] theorem afterEvac_tables : (afterEvac s).tables = s.tables := by simp [afterEvac]
@[simp] theorem afterEvac_budget : (afterEvac s).budget = s.budget := by simp [afterEvac]
@[simp] theorem afterEvac_head : (afterEvac s).head = s.head := by simp [afterEvac]
@[simp] theorem afterEvac_bin : (afterEvac s).bin = s.bin := by simp [afterEvac]
@[simp] theorem afterEvac_faults : (afterEvac s).faults = s.faults := by simp [afterEvac]
@[simp] theorem afterEvac_store : (afterEvac s).store = s.store := by simp [afterEvac]
@[simp] theorem afterEvac_power : (afterEvac s).power = s.power := by simp [afterEvac]
@[simp] theorem afterEvac_tornCount : (afterEvac s).tornCount = s.tornCount := by simp [afterEvac]

/-! ### beginEvacHold -/

@[simp] theorem beginEvacHold_clock : (beginEvacHold s).clock = s.clock := by
  unfold beginEvacHold
  split <;> simp
@[simp] theorem beginEvacHold_pending : (beginEvacHold s).pending = s.pending := by
  unfold beginEvacHold
  split <;> simp
@[simp] theorem beginEvacHold_scan : (beginEvacHold s).scan = s.scan := by
  unfold beginEvacHold
  split <;> simp
@[simp] theorem beginEvacHold_account : (beginEvacHold s).account = s.account := by
  unfold beginEvacHold
  split <;> simp
@[simp] theorem beginEvacHold_tables : (beginEvacHold s).tables = s.tables := by
  unfold beginEvacHold
  split <;> simp
@[simp] theorem beginEvacHold_budget : (beginEvacHold s).budget = s.budget := by
  unfold beginEvacHold
  split <;> simp
@[simp] theorem beginEvacHold_suction : (beginEvacHold s).suction = s.suction := by
  unfold beginEvacHold
  split <;> simp
@[simp] theorem beginEvacHold_head : (beginEvacHold s).head = s.head := by
  unfold beginEvacHold
  split <;> simp
@[simp] theorem beginEvacHold_dirt : (beginEvacHold s).dirt = s.dirt := by
  unfold beginEvacHold
  split <;> simp
@[simp] theorem beginEvacHold_bin : (beginEvacHold s).bin = s.bin := by
  unfold beginEvacHold
  split <;> simp
@[simp] theorem beginEvacHold_faults : (beginEvacHold s).faults = s.faults := by
  unfold beginEvacHold
  split <;> simp
@[simp] theorem beginEvacHold_store : (beginEvacHold s).store = s.store := by
  unfold beginEvacHold
  split <;> simp
@[simp] theorem beginEvacHold_power : (beginEvacHold s).power = s.power := by
  unfold beginEvacHold
  split <;> simp
@[simp] theorem beginEvacHold_tornCount : (beginEvacHold s).tornCount = s.tornCount := by
  unfold beginEvacHold
  split <;> simp

end Sys2Proof.Machine
end

