-- ==== Sys2Proof/Laws/FramePower.lean ====
section
/-! SUPPORT. What each shared operation leaves unchanged: one lemma per operation and per block it does not write. -/

namespace Sys2Proof.Machine

variable (s : State)

/-! ### startScan -/

@[simp] theorem startScan_clock : (startScan s).clock = s.clock := rfl
@[simp] theorem startScan_pending : (startScan s).pending = s.pending := rfl
@[simp] theorem startScan_account : (startScan s).account = s.account := rfl
@[simp] theorem startScan_tables : (startScan s).tables = s.tables := rfl
@[simp] theorem startScan_budget : (startScan s).budget = s.budget := rfl
@[simp] theorem startScan_suction : (startScan s).suction = s.suction := rfl
@[simp] theorem startScan_head : (startScan s).head = s.head := rfl
@[simp] theorem startScan_dirt : (startScan s).dirt = s.dirt := rfl
@[simp] theorem startScan_bin : (startScan s).bin = s.bin := rfl
@[simp] theorem startScan_charge : (startScan s).charge = s.charge := rfl
@[simp] theorem startScan_faults : (startScan s).faults = s.faults := rfl
@[simp] theorem startScan_ports : (startScan s).ports = s.ports := rfl
@[simp] theorem startScan_store : (startScan s).store = s.store := rfl
@[simp] theorem startScan_power : (startScan s).power = s.power := rfl
@[simp] theorem startScan_tornCount : (startScan s).tornCount = s.tornCount := rfl

/-! ### enterActive -/

@[simp] theorem enterActive_clock (w : WakeSource) : (enterActive w s).clock = s.clock := by
  unfold enterActive
  simp only []
  (repeat' split) <;> simp
@[simp] theorem enterActive_pending (w : WakeSource) : (enterActive w s).pending = s.pending := by
  unfold enterActive
  simp only []
  (repeat' split) <;> simp
@[simp] theorem enterActive_account (w : WakeSource) : (enterActive w s).account = s.account := by
  unfold enterActive
  simp only []
  (repeat' split) <;> simp
@[simp] theorem enterActive_tables (w : WakeSource) : (enterActive w s).tables = s.tables := by
  unfold enterActive
  simp only []
  (repeat' split) <;> simp
@[simp] theorem enterActive_suction (w : WakeSource) : (enterActive w s).suction = s.suction := by
  unfold enterActive
  simp only []
  (repeat' split) <;> simp
@[simp] theorem enterActive_dirt (w : WakeSource) : (enterActive w s).dirt = s.dirt := by
  unfold enterActive
  simp only []
  (repeat' split) <;> simp
@[simp] theorem enterActive_bin (w : WakeSource) : (enterActive w s).bin = s.bin := by
  unfold enterActive
  simp only []
  (repeat' split) <;> simp
@[simp] theorem enterActive_charge (w : WakeSource) : (enterActive w s).charge = s.charge := by
  unfold enterActive
  simp only []
  (repeat' split) <;> simp
@[simp] theorem enterActive_store (w : WakeSource) : (enterActive w s).store = s.store := by
  unfold enterActive
  simp only []
  (repeat' split) <;> simp
@[simp] theorem enterActive_tornCount (w : WakeSource) : (enterActive w s).tornCount = s.tornCount := by
  unfold enterActive
  simp only []
  (repeat' split) <;> simp

/-! ### leaveStandby -/

@[simp] theorem leaveStandby_clock (w : WakeSource) : (leaveStandby w s).clock = s.clock := by
  unfold leaveStandby
  split <;> simp
@[simp] theorem leaveStandby_pending (w : WakeSource) : (leaveStandby w s).pending = s.pending := by
  unfold leaveStandby
  split <;> simp
@[simp] theorem leaveStandby_account (w : WakeSource) : (leaveStandby w s).account = s.account := by
  unfold leaveStandby
  split <;> simp
@[simp] theorem leaveStandby_tables (w : WakeSource) : (leaveStandby w s).tables = s.tables := by
  unfold leaveStandby
  split <;> simp
@[simp] theorem leaveStandby_suction (w : WakeSource) : (leaveStandby w s).suction = s.suction := by
  unfold leaveStandby
  split <;> simp
@[simp] theorem leaveStandby_dirt (w : WakeSource) : (leaveStandby w s).dirt = s.dirt := by
  unfold leaveStandby
  split <;> simp
@[simp] theorem leaveStandby_bin (w : WakeSource) : (leaveStandby w s).bin = s.bin := by
  unfold leaveStandby
  split <;> simp
@[simp] theorem leaveStandby_charge (w : WakeSource) : (leaveStandby w s).charge = s.charge := by
  unfold leaveStandby
  split <;> simp
@[simp] theorem leaveStandby_store (w : WakeSource) : (leaveStandby w s).store = s.store := by
  unfold leaveStandby
  split <;> simp
@[simp] theorem leaveStandby_tornCount (w : WakeSource) : (leaveStandby w s).tornCount = s.tornCount := by
  unfold leaveStandby
  split <;> simp

/-! ### cancelSleep -/

@[simp] theorem cancelSleep_clock : (cancelSleep s).clock = s.clock := by
  unfold cancelSleep
  split <;> simp
@[simp] theorem cancelSleep_pending : (cancelSleep s).pending = s.pending := by
  unfold cancelSleep
  split <;> simp
@[simp] theorem cancelSleep_scan : (cancelSleep s).scan = s.scan := by
  unfold cancelSleep
  split <;> simp
@[simp] theorem cancelSleep_account : (cancelSleep s).account = s.account := by
  unfold cancelSleep
  split <;> simp
@[simp] theorem cancelSleep_tables : (cancelSleep s).tables = s.tables := by
  unfold cancelSleep
  split <;> simp
@[simp] theorem cancelSleep_budget : (cancelSleep s).budget = s.budget := by
  unfold cancelSleep
  split <;> simp
@[simp] theorem cancelSleep_suction : (cancelSleep s).suction = s.suction := by
  unfold cancelSleep
  split <;> simp
@[simp] theorem cancelSleep_head : (cancelSleep s).head = s.head := by
  unfold cancelSleep
  split <;> simp
@[simp] theorem cancelSleep_dirt : (cancelSleep s).dirt = s.dirt := by
  unfold cancelSleep
  split <;> simp
@[simp] theorem cancelSleep_bin : (cancelSleep s).bin = s.bin := by
  unfold cancelSleep
  split <;> simp
@[simp] theorem cancelSleep_charge : (cancelSleep s).charge = s.charge := by
  unfold cancelSleep
  split <;> simp
@[simp] theorem cancelSleep_faults : (cancelSleep s).faults = s.faults := by
  unfold cancelSleep
  split <;> simp
@[simp] theorem cancelSleep_ports : (cancelSleep s).ports = s.ports := by
  unfold cancelSleep
  split <;> simp
@[simp] theorem cancelSleep_store : (cancelSleep s).store = s.store := by
  unfold cancelSleep
  split <;> simp
@[simp] theorem cancelSleep_tornCount : (cancelSleep s).tornCount = s.tornCount := by
  unfold cancelSleep
  split <;> simp

/-! ### enterStandby -/

@[simp] theorem enterStandby_clock : (enterStandby s).clock = s.clock := rfl
@[simp] theorem enterStandby_pending : (enterStandby s).pending = s.pending := rfl
@[simp] theorem enterStandby_account : (enterStandby s).account = s.account := rfl
@[simp] theorem enterStandby_tables : (enterStandby s).tables = s.tables := rfl
@[simp] theorem enterStandby_suction : (enterStandby s).suction = s.suction := rfl
@[simp] theorem enterStandby_head : (enterStandby s).head = s.head := rfl
@[simp] theorem enterStandby_dirt : (enterStandby s).dirt = s.dirt := rfl
@[simp] theorem enterStandby_bin : (enterStandby s).bin = s.bin := rfl
@[simp] theorem enterStandby_charge : (enterStandby s).charge = s.charge := rfl
@[simp] theorem enterStandby_faults : (enterStandby s).faults = s.faults := rfl
@[simp] theorem enterStandby_store : (enterStandby s).store = s.store := rfl
@[simp] theorem enterStandby_tornCount : (enterStandby s).tornCount = s.tornCount := rfl

/-! ### standbyAtOnce -/

@[simp] theorem standbyAtOnce_clock : (standbyAtOnce s).clock = s.clock := by
  unfold standbyAtOnce
  simp only []
  (repeat' split) <;> simp
@[simp] theorem standbyAtOnce_pending : (standbyAtOnce s).pending = s.pending := by
  unfold standbyAtOnce
  simp only []
  (repeat' split) <;> simp
@[simp] theorem standbyAtOnce_account : (standbyAtOnce s).account = s.account := by
  unfold standbyAtOnce
  simp only []
  (repeat' split) <;> simp
@[simp] theorem standbyAtOnce_tables : (standbyAtOnce s).tables = s.tables := by
  unfold standbyAtOnce
  simp only []
  (repeat' split) <;> simp
@[simp] theorem standbyAtOnce_suction : (standbyAtOnce s).suction = s.suction := by
  unfold standbyAtOnce
  simp only []
  (repeat' split) <;> simp
@[simp] theorem standbyAtOnce_head : (standbyAtOnce s).head = s.head := by
  unfold standbyAtOnce
  simp only []
  (repeat' split) <;> simp
@[simp] theorem standbyAtOnce_dirt : (standbyAtOnce s).dirt = s.dirt := by
  unfold standbyAtOnce
  simp only []
  (repeat' split) <;> simp
@[simp] theorem standbyAtOnce_bin : (standbyAtOnce s).bin = s.bin := by
  unfold standbyAtOnce
  simp only []
  (repeat' split) <;> simp
@[simp] theorem standbyAtOnce_charge : (standbyAtOnce s).charge = s.charge := by
  unfold standbyAtOnce
  simp only []
  (repeat' split) <;> simp
@[simp] theorem standbyAtOnce_faults : (standbyAtOnce s).faults = s.faults := by
  unfold standbyAtOnce
  simp only []
  (repeat' split) <;> simp
@[simp] theorem standbyAtOnce_store : (standbyAtOnce s).store = s.store := by
  unfold standbyAtOnce
  simp only []
  (repeat' split) <;> simp
@[simp] theorem standbyAtOnce_tornCount : (standbyAtOnce s).tornCount = s.tornCount := by
  unfold standbyAtOnce
  simp only []
  (repeat' split) <;> simp

/-! ### suctionSleep -/

@[simp] theorem suctionSleep_clock : (suctionSleep s).clock = s.clock := by simp [suctionSleep]
@[simp] theorem suctionSleep_pending : (suctionSleep s).pending = s.pending := by simp [suctionSleep]
@[simp] theorem suctionSleep_scan : (suctionSleep s).scan = s.scan := by simp [suctionSleep]
@[simp] theorem suctionSleep_account : (suctionSleep s).account = s.account := by simp [suctionSleep]
@[simp] theorem suctionSleep_tables : (suctionSleep s).tables = s.tables := by simp [suctionSleep]
@[simp] theorem suctionSleep_budget : (suctionSleep s).budget = s.budget := by simp [suctionSleep]
@[simp] theorem suctionSleep_head : (suctionSleep s).head = s.head := by simp [suctionSleep]
@[simp] theorem suctionSleep_bin : (suctionSleep s).bin = s.bin := by simp [suctionSleep]
@[simp] theorem suctionSleep_charge : (suctionSleep s).charge = s.charge := by simp [suctionSleep]
@[simp] theorem suctionSleep_faults : (suctionSleep s).faults = s.faults := by simp [suctionSleep]
@[simp] theorem suctionSleep_store : (suctionSleep s).store = s.store := by simp [suctionSleep]
@[simp] theorem suctionSleep_power : (suctionSleep s).power = s.power := by simp [suctionSleep]
@[simp] theorem suctionSleep_tornCount : (suctionSleep s).tornCount = s.tornCount := by simp [suctionSleep]

/-! ### dirtSleep -/

@[simp] theorem dirtSleep_clock : (dirtSleep s).clock = s.clock := rfl
@[simp] theorem dirtSleep_pending : (dirtSleep s).pending = s.pending := rfl
@[simp] theorem dirtSleep_scan : (dirtSleep s).scan = s.scan := rfl
@[simp] theorem dirtSleep_account : (dirtSleep s).account = s.account := rfl
@[simp] theorem dirtSleep_tables : (dirtSleep s).tables = s.tables := rfl
@[simp] theorem dirtSleep_budget : (dirtSleep s).budget = s.budget := rfl
@[simp] theorem dirtSleep_suction : (dirtSleep s).suction = s.suction := rfl
@[simp] theorem dirtSleep_head : (dirtSleep s).head = s.head := rfl
@[simp] theorem dirtSleep_bin : (dirtSleep s).bin = s.bin := rfl
@[simp] theorem dirtSleep_charge : (dirtSleep s).charge = s.charge := rfl
@[simp] theorem dirtSleep_faults : (dirtSleep s).faults = s.faults := rfl
@[simp] theorem dirtSleep_ports : (dirtSleep s).ports = s.ports := rfl
@[simp] theorem dirtSleep_store : (dirtSleep s).store = s.store := rfl
@[simp] theorem dirtSleep_power : (dirtSleep s).power = s.power := rfl
@[simp] theorem dirtSleep_tornCount : (dirtSleep s).tornCount = s.tornCount := rfl

/-! ### chargeSleep -/

@[simp] theorem chargeSleep_clock : (chargeSleep s).clock = s.clock := by
  unfold chargeSleep
  split <;> simp
@[simp] theorem chargeSleep_pending : (chargeSleep s).pending = s.pending := by
  unfold chargeSleep
  split <;> simp
@[simp] theorem chargeSleep_scan : (chargeSleep s).scan = s.scan := by
  unfold chargeSleep
  split <;> simp
@[simp] theorem chargeSleep_account : (chargeSleep s).account = s.account := by
  unfold chargeSleep
  split <;> simp
@[simp] theorem chargeSleep_tables : (chargeSleep s).tables = s.tables := by
  unfold chargeSleep
  split <;> simp
@[simp] theorem chargeSleep_budget : (chargeSleep s).budget = s.budget := by
  unfold chargeSleep
  split <;> simp
@[simp] theorem chargeSleep_suction : (chargeSleep s).suction = s.suction := by
  unfold chargeSleep
  split <;> simp
@[simp] theorem chargeSleep_head : (chargeSleep s).head = s.head := by
  unfold chargeSleep
  split <;> simp
@[simp] theorem chargeSleep_dirt : (chargeSleep s).dirt = s.dirt := by
  unfold chargeSleep
  split <;> simp
@[simp] theorem chargeSleep_bin : (chargeSleep s).bin = s.bin := by
  unfold chargeSleep
  split <;> simp
@[simp] theorem chargeSleep_faults : (chargeSleep s).faults = s.faults := by
  unfold chargeSleep
  split <;> simp
@[simp] theorem chargeSleep_ports : (chargeSleep s).ports = s.ports := by
  unfold chargeSleep
  split <;> simp
@[simp] theorem chargeSleep_store : (chargeSleep s).store = s.store := by
  unfold chargeSleep
  split <;> simp
@[simp] theorem chargeSleep_power : (chargeSleep s).power = s.power := by
  unfold chargeSleep
  split <;> simp
@[simp] theorem chargeSleep_tornCount : (chargeSleep s).tornCount = s.tornCount := by
  unfold chargeSleep
  split <;> simp

/-! ### portsSleep -/

@[simp] theorem portsSleep_clock : (portsSleep s).clock = s.clock := rfl
@[simp] theorem portsSleep_pending : (portsSleep s).pending = s.pending := rfl
@[simp] theorem portsSleep_scan : (portsSleep s).scan = s.scan := rfl
@[simp] theorem portsSleep_account : (portsSleep s).account = s.account := rfl
@[simp] theorem portsSleep_tables : (portsSleep s).tables = s.tables := rfl
@[simp] theorem portsSleep_budget : (portsSleep s).budget = s.budget := rfl
@[simp] theorem portsSleep_suction : (portsSleep s).suction = s.suction := rfl
@[simp] theorem portsSleep_head : (portsSleep s).head = s.head := rfl
@[simp] theorem portsSleep_dirt : (portsSleep s).dirt = s.dirt := rfl
@[simp] theorem portsSleep_bin : (portsSleep s).bin = s.bin := rfl
@[simp] theorem portsSleep_charge : (portsSleep s).charge = s.charge := rfl
@[simp] theorem portsSleep_faults : (portsSleep s).faults = s.faults := rfl
@[simp] theorem portsSleep_store : (portsSleep s).store = s.store := rfl
@[simp] theorem portsSleep_power : (portsSleep s).power = s.power := rfl
@[simp] theorem portsSleep_tornCount : (portsSleep s).tornCount = s.tornCount := rfl

/-! ### enterSleep -/

@[simp] theorem enterSleep_clock (m : PowerMode) (l : Bool) : (enterSleep m l s).clock = s.clock := by simp [enterSleep]
@[simp] theorem enterSleep_pending (m : PowerMode) (l : Bool) : (enterSleep m l s).pending = s.pending := by simp [enterSleep]
@[simp] theorem enterSleep_tables (m : PowerMode) (l : Bool) : (enterSleep m l s).tables = s.tables := by simp [enterSleep]
@[simp] theorem enterSleep_bin (m : PowerMode) (l : Bool) : (enterSleep m l s).bin = s.bin := by simp [enterSleep]
@[simp] theorem enterSleep_faults (m : PowerMode) (l : Bool) : (enterSleep m l s).faults = s.faults := by simp [enterSleep]
@[simp] theorem enterSleep_tornCount (m : PowerMode) (l : Bool) : (enterSleep m l s).tornCount = s.tornCount := by simp [enterSleep]

/-! ### judgeShelf -/

@[simp] theorem judgeShelf_clock (m : MeasurementSet) : (judgeShelf m s).clock = s.clock := by
  unfold judgeShelf
  simp only []
  (repeat' split) <;> simp
@[simp] theorem judgeShelf_pending (m : MeasurementSet) : (judgeShelf m s).pending = s.pending := by
  unfold judgeShelf
  simp only []
  (repeat' split) <;> simp
@[simp] theorem judgeShelf_tables (m : MeasurementSet) : (judgeShelf m s).tables = s.tables := by
  unfold judgeShelf
  simp only []
  (repeat' split) <;> simp
@[simp] theorem judgeShelf_bin (m : MeasurementSet) : (judgeShelf m s).bin = s.bin := by
  unfold judgeShelf
  simp only []
  (repeat' split) <;> simp
@[simp] theorem judgeShelf_faults (m : MeasurementSet) : (judgeShelf m s).faults = s.faults := by
  unfold judgeShelf
  simp only []
  (repeat' split) <;> simp
@[simp] theorem judgeShelf_tornCount (m : MeasurementSet) : (judgeShelf m s).tornCount = s.tornCount := by
  unfold judgeShelf
  simp only []
  (repeat' split) <;> simp

end Sys2Proof.Machine
end

