-- ==== Sys2Proof/Laws/FrameRequest.lean ====
section
/-! SUPPORT. What each shared operation leaves unchanged: one lemma per operation and per block it does not write. -/

namespace Sys2Proof.Machine

variable (s : State)

/-! ### answer -/

@[simp] theorem answer_clock (r : Req) (a : Reply) : (answer r a s).clock = s.clock := rfl
@[simp] theorem answer_pending (r : Req) (a : Reply) : (answer r a s).pending = s.pending := rfl
@[simp] theorem answer_scan (r : Req) (a : Reply) : (answer r a s).scan = s.scan := rfl
@[simp] theorem answer_account (r : Req) (a : Reply) : (answer r a s).account = s.account := rfl
@[simp] theorem answer_tables (r : Req) (a : Reply) : (answer r a s).tables = s.tables := rfl
@[simp] theorem answer_budget (r : Req) (a : Reply) : (answer r a s).budget = s.budget := rfl
@[simp] theorem answer_suction (r : Req) (a : Reply) : (answer r a s).suction = s.suction := rfl
@[simp] theorem answer_head (r : Req) (a : Reply) : (answer r a s).head = s.head := rfl
@[simp] theorem answer_dirt (r : Req) (a : Reply) : (answer r a s).dirt = s.dirt := rfl
@[simp] theorem answer_bin (r : Req) (a : Reply) : (answer r a s).bin = s.bin := rfl
@[simp] theorem answer_charge (r : Req) (a : Reply) : (answer r a s).charge = s.charge := rfl
@[simp] theorem answer_faults (r : Req) (a : Reply) : (answer r a s).faults = s.faults := rfl
@[simp] theorem answer_store (r : Req) (a : Reply) : (answer r a s).store = s.store := rfl
@[simp] theorem answer_power (r : Req) (a : Reply) : (answer r a s).power = s.power := rfl
@[simp] theorem answer_tornCount (r : Req) (a : Reply) : (answer r a s).tornCount = s.tornCount := rfl

/-! ### answerBusy -/

@[simp] theorem answerBusy_clock (p : Port) (t : Nat) : (answerBusy p t s).clock = s.clock := by
  unfold answerBusy
  simp only []
  (repeat' split) <;> simp
@[simp] theorem answerBusy_pending (p : Port) (t : Nat) : (answerBusy p t s).pending = s.pending := by
  unfold answerBusy
  simp only []
  (repeat' split) <;> simp
@[simp] theorem answerBusy_scan (p : Port) (t : Nat) : (answerBusy p t s).scan = s.scan := by
  unfold answerBusy
  simp only []
  (repeat' split) <;> simp
@[simp] theorem answerBusy_account (p : Port) (t : Nat) : (answerBusy p t s).account = s.account := by
  unfold answerBusy
  simp only []
  (repeat' split) <;> simp
@[simp] theorem answerBusy_tables (p : Port) (t : Nat) : (answerBusy p t s).tables = s.tables := by
  unfold answerBusy
  simp only []
  (repeat' split) <;> simp
@[simp] theorem answerBusy_budget (p : Port) (t : Nat) : (answerBusy p t s).budget = s.budget := by
  unfold answerBusy
  simp only []
  (repeat' split) <;> simp
@[simp] theorem answerBusy_suction (p : Port) (t : Nat) : (answerBusy p t s).suction = s.suction := by
  unfold answerBusy
  simp only []
  (repeat' split) <;> simp
@[simp] theorem answerBusy_head (p : Port) (t : Nat) : (answerBusy p t s).head = s.head := by
  unfold answerBusy
  simp only []
  (repeat' split) <;> simp
@[simp] theorem answerBusy_dirt (p : Port) (t : Nat) : (answerBusy p t s).dirt = s.dirt := by
  unfold answerBusy
  simp only []
  (repeat' split) <;> simp
@[simp] theorem answerBusy_bin (p : Port) (t : Nat) : (answerBusy p t s).bin = s.bin := by
  unfold answerBusy
  simp only []
  (repeat' split) <;> simp
@[simp] theorem answerBusy_charge (p : Port) (t : Nat) : (answerBusy p t s).charge = s.charge := by
  unfold answerBusy
  simp only []
  (repeat' split) <;> simp
@[simp] theorem answerBusy_faults (p : Port) (t : Nat) : (answerBusy p t s).faults = s.faults := by
  unfold answerBusy
  simp only []
  (repeat' split) <;> simp
@[simp] theorem answerBusy_store (p : Port) (t : Nat) : (answerBusy p t s).store = s.store := by
  unfold answerBusy
  simp only []
  (repeat' split) <;> simp
@[simp] theorem answerBusy_power (p : Port) (t : Nat) : (answerBusy p t s).power = s.power := by
  unfold answerBusy
  simp only []
  (repeat' split) <;> simp
@[simp] theorem answerBusy_tornCount (p : Port) (t : Nat) : (answerBusy p t s).tornCount = s.tornCount := by
  unfold answerBusy
  simp only []
  (repeat' split) <;> simp

/-! ### clockOut -/

@[simp] theorem clockOut_clock (f : List Response → Delivery) : (clockOut f s).clock = s.clock := rfl
@[simp] theorem clockOut_pending (f : List Response → Delivery) : (clockOut f s).pending = s.pending := rfl
@[simp] theorem clockOut_scan (f : List Response → Delivery) : (clockOut f s).scan = s.scan := rfl
@[simp] theorem clockOut_account (f : List Response → Delivery) : (clockOut f s).account = s.account := rfl
@[simp] theorem clockOut_tables (f : List Response → Delivery) : (clockOut f s).tables = s.tables := rfl
@[simp] theorem clockOut_budget (f : List Response → Delivery) : (clockOut f s).budget = s.budget := rfl
@[simp] theorem clockOut_suction (f : List Response → Delivery) : (clockOut f s).suction = s.suction := rfl
@[simp] theorem clockOut_head (f : List Response → Delivery) : (clockOut f s).head = s.head := rfl
@[simp] theorem clockOut_dirt (f : List Response → Delivery) : (clockOut f s).dirt = s.dirt := rfl
@[simp] theorem clockOut_bin (f : List Response → Delivery) : (clockOut f s).bin = s.bin := rfl
@[simp] theorem clockOut_charge (f : List Response → Delivery) : (clockOut f s).charge = s.charge := rfl
@[simp] theorem clockOut_faults (f : List Response → Delivery) : (clockOut f s).faults = s.faults := rfl
@[simp] theorem clockOut_store (f : List Response → Delivery) : (clockOut f s).store = s.store := rfl
@[simp] theorem clockOut_power (f : List Response → Delivery) : (clockOut f s).power = s.power := rfl
@[simp] theorem clockOut_tornCount (f : List Response → Delivery) : (clockOut f s).tornCount = s.tornCount := rfl

/-! ### validFrame -/

@[simp] theorem validFrame_clock (p : Port) : (validFrame p s).clock = s.clock := by
  unfold validFrame
  split <;> simp
@[simp] theorem validFrame_pending (p : Port) : (validFrame p s).pending = s.pending := by
  unfold validFrame
  split <;> simp
@[simp] theorem validFrame_scan (p : Port) : (validFrame p s).scan = s.scan := by
  unfold validFrame
  split <;> simp
@[simp] theorem validFrame_account (p : Port) : (validFrame p s).account = s.account := by
  unfold validFrame
  split <;> simp
@[simp] theorem validFrame_tables (p : Port) : (validFrame p s).tables = s.tables := by
  unfold validFrame
  split <;> simp
@[simp] theorem validFrame_budget (p : Port) : (validFrame p s).budget = s.budget := by
  unfold validFrame
  split <;> simp
@[simp] theorem validFrame_suction (p : Port) : (validFrame p s).suction = s.suction := by
  unfold validFrame
  split <;> simp
@[simp] theorem validFrame_dirt (p : Port) : (validFrame p s).dirt = s.dirt := by
  unfold validFrame
  split <;> simp
@[simp] theorem validFrame_bin (p : Port) : (validFrame p s).bin = s.bin := by
  unfold validFrame
  split <;> simp
@[simp] theorem validFrame_ports (p : Port) : (validFrame p s).ports = s.ports := by
  unfold validFrame
  split <;> simp
@[simp] theorem validFrame_store (p : Port) : (validFrame p s).store = s.store := by
  unfold validFrame
  split <;> simp
@[simp] theorem validFrame_power (p : Port) : (validFrame p s).power = s.power := by
  unfold validFrame
  split <;> simp
@[simp] theorem validFrame_tornCount (p : Port) : (validFrame p s).tornCount = s.tornCount := by
  unfold validFrame
  split <;> simp

/-! ### arrive -/

@[simp] theorem arrive_clock (r : Req) : (arrive r s).clock = s.clock := by
  unfold arrive
  split
  · rfl
  · split <;> simp
@[simp] theorem arrive_pending (r : Req) : (arrive r s).pending = s.pending := by
  unfold arrive
  split
  · rfl
  · split <;> simp
@[simp] theorem arrive_scan (r : Req) : (arrive r s).scan = s.scan := by
  unfold arrive
  split
  · rfl
  · split <;> simp
@[simp] theorem arrive_account (r : Req) : (arrive r s).account = s.account := by
  unfold arrive
  split
  · rfl
  · split <;> simp
@[simp] theorem arrive_tables (r : Req) : (arrive r s).tables = s.tables := by
  unfold arrive
  split
  · rfl
  · split <;> simp
@[simp] theorem arrive_budget (r : Req) : (arrive r s).budget = s.budget := by
  unfold arrive
  split
  · rfl
  · split <;> simp
@[simp] theorem arrive_suction (r : Req) : (arrive r s).suction = s.suction := by
  unfold arrive
  split
  · rfl
  · split <;> simp
@[simp] theorem arrive_dirt (r : Req) : (arrive r s).dirt = s.dirt := by
  unfold arrive
  split
  · rfl
  · split <;> simp
@[simp] theorem arrive_bin (r : Req) : (arrive r s).bin = s.bin := by
  unfold arrive
  split
  · rfl
  · split <;> simp
@[simp] theorem arrive_store (r : Req) : (arrive r s).store = s.store := by
  unfold arrive
  split
  · rfl
  · split <;> simp
@[simp] theorem arrive_power (r : Req) : (arrive r s).power = s.power := by
  unfold arrive
  split
  · rfl
  · split <;> simp
@[simp] theorem arrive_tornCount (r : Req) : (arrive r s).tornCount = s.tornCount := by
  unfold arrive
  split
  · rfl
  · split <;> simp

end Sys2Proof.Machine
end

