-- ==== Sys2Proof/Laws/Serve.lean ====
section
/-! SUPPORT. What the service of a request and the settling after a step can do, said once; and on which fields the computed
indications depend. -/

namespace Sys2Proof.Machine

/-! ### What the computed indications depend on -/

theorem motorStopped_congr {s t : State} (h1 : t.suction.state = s.suction.state) (h2 : t.suction.speed = s.suction.speed) :
    motorStopped t = motorStopped s := by
  simp [motorStopped, men, h1, h2]

theorem atRest_congr {s t : State} (h1 : t.suction.state = s.suction.state) (h2 : t.suction.speed = s.suction.speed)
    (h3 : t.suction.stop = s.suction.stop) (h4 : t.charge.stage = s.charge.stage) (h5 : t.bin.evac = s.bin.evac) :
    atRest t = atRest s := by
  simp [atRest, inhibits, docked, evacuating, motorStopped_congr h1 h2, h1, h3, h4, h5]

theorem holds_congr {s t : State} (h : t.faults.entries = s.faults.entries) (a : Action) : holds t a = holds s a := by
  simp [holds, h]

theorem headPwr_congr {s t : State} (h1 : t.head.attached = s.head.attached) (h2 : t.head.announced = s.head.announced)
    (h3 : t.head.type = s.head.type) (h4 : t.power.mode = s.power.mode) (h5 : t.charge.stage = s.charge.stage)
    (h6 : t.faults.entries = s.faults.entries) : headPwr t = headPwr s := by
  simp [headPwr, railState, railPermission, docked, holds_congr h6, h1, h2, h3, h4, h5]

theorem holdReason_congr {s t : State} (h1 : t.suction.state = s.suction.state) (h2 : t.suction.speed = s.suction.speed)
    (h3 : t.bin.evac = s.bin.evac) (h4 : t.charge.stage = s.charge.stage) (h5 : t.charge.scanWait = s.charge.scanWait)
    (h6 : t.charge.linkFlag = s.charge.linkFlag) (h7 : t.charge.temp = s.charge.temp) : holdReason t = holdReason s := by
  simp [holdReason, holdCauses, docked, evacuating, motorStopped_congr h1 h2, h3, h4, h5, h6, h7]

section
variable (s : State)

/-! ### Fields that the settling leaves -/

@[simp] theorem settle_head_attached (b : State) : (settle b s).head.attached = s.head.attached := by
  simp only [settle, settleRest_head, settleReason_head, settleGrant]
  split <;> rfl
@[simp] theorem settle_head_identRead (b : State) : (settle b s).head.identRead = s.head.identRead := by
  simp only [settle, settleRest_head, settleReason_head, settleGrant]
  split <;> rfl
@[simp] theorem settle_head_announced (b : State) : (settle b s).head.announced = s.head.announced := by
  simp only [settle, settleRest_head, settleReason_head, settleGrant]
  split <;> rfl
@[simp] theorem settle_head_type (b : State) : (settle b s).head.type = s.head.type := by
  simp only [settle, settleRest_head, settleReason_head, settleGrant]
  split <;> rfl
@[simp] theorem settle_head_id (b : State) : (settle b s).head.id = s.head.id := by
  simp only [settle, settleRest_head, settleReason_head, settleGrant]
  split <;> rfl
@[simp] theorem settle_head_firmware (b : State) : (settle b s).head.firmware = s.head.firmware := by
  simp only [settle, settleRest_head, settleReason_head, settleGrant]
  split <;> rfl
@[simp] theorem settle_head_floor (b : State) : (settle b s).head.floor = s.head.floor := by
  simp only [settle, settleRest_head, settleReason_head, settleGrant]
  split <;> rfl
@[simp] theorem settle_head_claim (b : State) : (settle b s).head.claim = s.head.claim := by
  simp only [settle, settleRest_head, settleReason_head, settleGrant]
  split <;> rfl
@[simp] theorem settle_head_frameSeen (b : State) : (settle b s).head.frameSeen = s.head.frameSeen := by
  simp only [settle, settleRest_head, settleReason_head, settleGrant]
  split <;> rfl
@[simp] theorem settle_head_silentSince (b : State) : (settle b s).head.silentSince = s.head.silentSince := by
  simp only [settle, settleRest_head, settleReason_head, settleGrant]
  split <;> rfl
@[simp] theorem settle_power_mode (b : State) : (settle b s).power.mode = s.power.mode := by
  simp [settle, settleRest]
@[simp] theorem settle_power_settlingUntil (b : State) : (settle b s).power.settlingUntil = s.power.settlingUntil := by
  simp [settle, settleRest]
@[simp] theorem settle_power_dwellSince (b : State) : (settle b s).power.dwellSince = s.power.dwellSince := by
  simp [settle, settleRest]
@[simp] theorem settle_power_sleepDue (b : State) : (settle b s).power.sleepDue = s.power.sleepDue := by
  simp [settle, settleRest]
@[simp] theorem settle_power_lastWake (b : State) : (settle b s).power.lastWake = s.power.lastWake := by
  simp [settle, settleRest]
@[simp] theorem settle_power_lastSleepEnd (b : State) : (settle b s).power.lastSleepEnd = s.power.lastSleepEnd := by
  simp [settle, settleRest]
@[simp] theorem settle_power_activeSince (b : State) : (settle b s).power.activeSince = s.power.activeSince := by
  simp [settle, settleRest]
@[simp] theorem settle_power_shelfCount (b : State) : (settle b s).power.shelfCount = s.power.shelfCount := by
  simp [settle, settleRest]
@[simp] theorem settle_power_headSample (b : State) : (settle b s).power.headSample = s.power.headSample := by
  simp [settle, settleRest]
@[simp] theorem settle_power_headLine (b : State) : (settle b s).power.headLine = s.power.headLine := by
  simp [settle, settleRest]

@[simp] theorem settle_power_handleStop (b : State) : (settle b s).power.handleStop = s.power.handleStop := by
  simp [settle, settleRest]

/-! ### Fields that the arrival of a frame leaves -/

@[simp] theorem arrive_head_attached (r : Req) : (arrive r s).head.attached = s.head.attached := by
  unfold arrive validFrame
  split
  · rfl
  · cases r.port <;> simp
@[simp] theorem arrive_head_identRead (r : Req) : (arrive r s).head.identRead = s.head.identRead := by
  unfold arrive validFrame
  split
  · rfl
  · cases r.port <;> simp
@[simp] theorem arrive_head_announced (r : Req) : (arrive r s).head.announced = s.head.announced := by
  unfold arrive validFrame
  split
  · rfl
  · cases r.port <;> simp
@[simp] theorem arrive_head_type (r : Req) : (arrive r s).head.type = s.head.type := by
  unfold arrive validFrame
  split
  · rfl
  · cases r.port <;> simp
@[simp] theorem arrive_head_id (r : Req) : (arrive r s).head.id = s.head.id := by
  unfold arrive validFrame
  split
  · rfl
  · cases r.port <;> simp
@[simp] theorem arrive_head_firmware (r : Req) : (arrive r s).head.firmware = s.head.firmware := by
  unfold arrive validFrame
  split
  · rfl
  · cases r.port <;> simp
@[simp] theorem arrive_head_floor (r : Req) : (arrive r s).head.floor = s.head.floor := by
  unfold arrive validFrame
  split
  · rfl
  · cases r.port <;> simp
@[simp] theorem arrive_head_claim (r : Req) : (arrive r s).head.claim = s.head.claim := by
  unfold arrive validFrame
  split
  · rfl
  · cases r.port <;> simp
@[simp] theorem arrive_head_grant (r : Req) : (arrive r s).head.grant = s.head.grant := by
  unfold arrive validFrame
  split
  · rfl
  · cases r.port <;> simp
@[simp] theorem arrive_charge_stage (r : Req) : (arrive r s).charge.stage = s.charge.stage := by
  unfold arrive validFrame
  split
  · rfl
  · cases r.port <;> simp
@[simp] theorem arrive_charge_temp (r : Req) : (arrive r s).charge.temp = s.charge.temp := by
  unfold arrive validFrame
  split
  · rfl
  · cases r.port <;> simp
@[simp] theorem arrive_charge_curGrant (r : Req) : (arrive r s).charge.curGrant = s.charge.curGrant := by
  unfold arrive validFrame
  split
  · rfl
  · cases r.port <;> simp
@[simp] theorem arrive_charge_voltGrant (r : Req) : (arrive r s).charge.voltGrant = s.charge.voltGrant := by
  unfold arrive validFrame
  split
  · rfl
  · cases r.port <;> simp
@[simp] theorem arrive_charge_cap (r : Req) : (arrive r s).charge.cap = s.charge.cap := by
  unfold arrive validFrame
  split
  · rfl
  · cases r.port <;> simp
@[simp] theorem arrive_charge_stageMs (r : Req) : (arrive r s).charge.stageMs = s.charge.stageMs := by
  unfold arrive validFrame
  split
  · rfl
  · cases r.port <;> simp
@[simp] theorem arrive_charge_totalMs (r : Req) : (arrive r s).charge.totalMs = s.charge.totalMs := by
  unfold arrive validFrame
  split
  · rfl
  · cases r.port <;> simp
@[simp] theorem arrive_charge_preMs (r : Req) : (arrive r s).charge.preMs = s.charge.preMs := by
  unfold arrive validFrame
  split
  · rfl
  · cases r.port <;> simp
@[simp] theorem arrive_charge_termRun (r : Req) : (arrive r s).charge.termRun = s.charge.termRun := by
  unfold arrive validFrame
  split
  · rfl
  · cases r.port <;> simp
@[simp] theorem arrive_charge_holdAt (r : Req) : (arrive r s).charge.holdAt = s.charge.holdAt := by
  unfold arrive validFrame
  split
  · rfl
  · cases r.port <;> simp
@[simp] theorem arrive_charge_resyncRequired (r : Req) : (arrive r s).charge.resyncRequired = s.charge.resyncRequired := by
  unfold arrive validFrame
  split
  · rfl
  · cases r.port <;> simp
@[simp] theorem arrive_charge_linkFlag (r : Req) : (arrive r s).charge.linkFlag = s.charge.linkFlag := by
  unfold arrive validFrame
  split
  · rfl
  · cases r.port <;> simp
@[simp] theorem arrive_charge_scanWait (r : Req) : (arrive r s).charge.scanWait = s.charge.scanWait := by
  unfold arrive validFrame
  split
  · rfl
  · cases r.port <;> simp
@[simp] theorem arrive_charge_balance (r : Req) : (arrive r s).charge.balance = s.charge.balance := by
  unfold arrive validFrame
  split
  · rfl
  · cases r.port <;> simp
@[simp] theorem arrive_charge_dockTier (r : Req) : (arrive r s).charge.dockTier = s.charge.dockTier := by
  unfold arrive validFrame
  split
  · rfl
  · cases r.port <;> simp
@[simp] theorem arrive_charge_icc (r : Req) : (arrive r s).charge.icc = s.charge.icc := by
  unfold arrive validFrame
  split
  · rfl
  · cases r.port <;> simp
@[simp] theorem arrive_charge_fCharge (r : Req) : (arrive r s).charge.fCharge = s.charge.fCharge := by
  unfold arrive validFrame
  split
  · rfl
  · cases r.port <;> simp
@[simp] theorem arrive_faults_entries (r : Req) : (arrive r s).faults.entries = s.faults.entries := by
  unfold arrive validFrame
  split
  · rfl
  · cases r.port <;> simp

end

/-! ### Settling -/

/-- A grant that is already 0 while the rail is off is left as it is. -/
theorem settleGrant_eq_self {s : State} (h : headPwr s = false → s.head.grant = 0) : settleGrant s = s := by
  unfold settleGrant
  split
  · rfl
  · rename_i hp
    have hg := h (by simpa using hp)
    cases s with | mk _ _ _ _ _ _ _ hd _ _ _ _ _ _ _ _ => cases hd; simp_all [State.setHead]

/-- The rest timer that already runs exactly at rest is left as it is. -/
theorem settleRest_eq_self {s : State} (h : RestLaw s) : settleRest s = s := by
  unfold RestLaw at h
  have : (if atRest s then some (s.power.restSince.getD s.clock) else none) = s.power.restSince := by
    rw [← h]
    cases s.power.restSince <;> rfl
  unfold settleRest
  rw [this]
  rfl

/-- No event where the reported reason stands. -/
theorem settleReason_eq_self {s t : State} (h : holdReason s = holdReason t) : settleReason s t = t := by
  simp [settleReason, h, raiseIf]

/-- Nothing follows from a step that leaves the grant, the rest timer and the hold reason as their rules have them. -/
theorem settle_eq_self {s t : State} (ht : Settled t) (h : holdReason s = holdReason t) : settle s t = t := by
  unfold settle
  rw [settleGrant_eq_self ht.1, settleReason_eq_self h, settleRest_eq_self ht.2]

/-- What settling leaves is settled. -/
theorem settled_settle (s t : State) : Settled (settle s t) := by
  have pwr : headPwr (settle s t) = headPwr t := by apply headPwr_congr <;> simp
  have rest : atRest (settle s t) = atRest t := by apply atRest_congr <;> simp
  constructor
  · intro h
    rw [pwr] at h
    simp [settle, settleGrant, h]
  · show (settle s t).power.restSince.isSome = atRest (settle s t)
    rw [rest]
    have : atRest (settleReason s (settleGrant t)) = atRest t := by apply atRest_congr <;> simp
    simp only [settle, settleRest, State.setPower_power, this]
    cases atRest t <;> simp

/-! ### Arrival -/

/-- The arrival of a frame leaves what the grant and the rest timer depend on. -/
theorem settled_arrive {s : State} (r : Req) (h : Settled s) : Settled (arrive r s) := by
  have rest : atRest (arrive r s) = atRest s := by apply atRest_congr <;> simp
  have pwr : headPwr (arrive r s) = headPwr s := by apply headPwr_congr <;> simp
  refine ⟨fun h' => ?_, ?_⟩
  · rw [pwr] at h'
    simpa using h.1 h'
  · show (arrive r s).power.restSince.isSome = atRest (arrive r s)
    rw [rest, ← h.2]
    simp

/-- The arrival of a frame leaves the reported hold reason. -/
theorem holdReason_arrive (r : Req) (s : State) : holdReason (arrive r s) = holdReason s := by
  apply holdReason_congr <;> simp

/-! ### Service (R165, R166) -/

theorem serve_asleep {s : State} (c : Instr) (r : Req) (w : Bool) (e : State → Effect) (h : asleep s = true) :
    serve c r w e s = s := by
  simp [serve, h]

/-- A row that says it processes a request received before, where another or none is in process, changes nothing. -/
theorem serve_unclaimed {s : State} (c : Instr) (r : Req) (w : Bool) (e : State → Effect) (h : claimed s c = false) :
    serve c r w e s = s := by
  simp [serve, h]

theorem serve_busy {s : State} (c : Instr) (r : Req) (w : Bool) (e : State → Effect) (h : asleep s = false)
    (hc : claimed s c = true) (hb : portBusy s r = true) : serve c r w e s = answerBusy r.port r.tag (arrive r s) := by
  simp [serve, h, hc, hb]

theorem serve_settling {s : State} (c : Instr) (r : Req) (e : State → Effect) (h : asleep s = false)
    (hc : claimed s c = true) (hb : portBusy s r = false) (hs : settling s = true) :
    serve c r false e s = answer r (refusal .settling) (arrive r s) := by
  simp [serve, h, hc, hb, hs, refusal]

/-- A judged request: its own effect on the state as its arrival left it, what follows from that, and its answer. -/
theorem serve_judged {s : State} {c : Instr} {r : Req} (w : Bool) (e : State → Effect) (hr : requestOf c = some r)
    (h : judged s c = true) :
    serve c r w e s = answer r (e (arrive r s)).2 (settle s (e (arrive r s)).1) := by
  simp only [judged, hr, Option.any_some, Bool.and_eq_true, Bool.not_eq_true'] at h
  obtain ⟨⟨⟨ha, hc⟩, hb⟩, hs⟩ := h
  simp [serve, ha, hc, hb, hs]

/-- A judged request whose effect changes nothing that others follow from. -/
theorem serve_plain {s : State} {c : Instr} {r : Req} (w : Bool) (e : State → Effect) (hr : requestOf c = some r)
    (h : judged s c = true) (hs : Settled (e (arrive r s)).1) (hh : holdReason s = holdReason (e (arrive r s)).1) :
    serve c r w e s = answer r (e (arrive r s)).2 (e (arrive r s)).1 := by
  rw [serve_judged w e hr h, settle_eq_self hs hh]

/-- A judged request that is refused changes nothing but its answer. -/
theorem serve_refused {s : State} {c : Instr} {r : Req} (w : Bool) (e : State → Effect) (hr : requestOf c = some r)
    (h : judged s c = true) (hs : Settled s) (he : (e (arrive r s)).1 = arrive r s) :
    serve c r w e s = answer r (e (arrive r s)).2 (arrive r s) := by
  rw [serve_plain w e hr h (by rw [he]; exact settled_arrive r hs) (by rw [he, holdReason_arrive]), he]

end Sys2Proof.Machine
end

