-- ==== Sys2Proof/Laws/Ports.lean ====
section
/-! SUPPORT. What the operations on the port engines do: engines replaced, arrival, answers, events; and what the arrival of a
request leaves for its checks. -/

namespace Sys2Proof.Machine

/-! ### Engines -/

@[simp] theorem PerPort.get_set {α : Type} (x : PerPort α) (p q : Port) (a : α) :
    (x.set p a).get q = if q = p then a else x.get q := by
  cases p <;> cases q <;> simp [PerPort.get, PerPort.set]

@[simp] theorem engineOf_setEngine (p q : Port) (e : Engine) (s : State) :
    engineOf (setEngine p e s) q = if q = p then e else engineOf s q := by
  simp [engineOf, setEngine]

@[simp] theorem setEngine_gates (p : Port) (e : Engine) (s : State) : (setEngine p e s).ports.gates = s.ports.gates := by
  simp [setEngine]

/-- Equal ports give equal engines. -/
theorem engineOf_congr {s t : State} (h : t.ports = s.ports) (p : Port) : engineOf t p = engineOf s p := by
  simp [engineOf, h]

/-! ### What a handle transaction clocks out (R163) -/

@[simp] theorem oldestOut_nil (n : Nat) : oldestOut n [] = .empty (zeroPadded n [0, 0]) := by simp [oldestOut]
@[simp] theorem oldestOut_cons (n : Nat) (x : Response) (l : List Response) :
    oldestOut n (x :: l) = .response x (zeroPadded n x.bytes) := rfl

/-- With an empty list the empty response is read where both its bytes are clocked. -/
theorem clockedOut_nil (n : Nat) :
    clockedOut n [] = if 2 ≤ n then .empty (zeroPadded n [0, 0]) else .failing (([0, 0] : List Byte).take n) := by
  simp [clockedOut, outFrame]

/-- The oldest response is read where its bytes all fit, and is lost where they do not. -/
theorem clockedOut_cons (n : Nat) (x : Response) (l : List Response) :
    clockedOut n (x :: l) =
      if x.bytes.length ≤ n then .response x (zeroPadded n x.bytes) else .failing (x.bytes.take n) := rfl

theorem engineOf_clockOut (seen : List Response → Delivery) (s : State) (q : Port) :
    engineOf (clockOut seen s) q =
      if q = .handle then
        { engineOf s .handle with
          delivered := seen (engineOf s .handle).waiting, waiting := (engineOf s .handle).waiting.tail }
      else engineOf s q := by
  simp [clockOut]

/-! ### Arrival (R163) -/

theorem engineOf_arrive (r : Req) (s : State) (q : Port) :
    engineOf (arrive r s) q =
      if q = .handle ∧ r.port = .handle ∧ r.received = false then
        { engineOf s .handle with
          delivered := oldestOut (ownClocks r) (engineOf s .handle).waiting
          waiting := (engineOf s .handle).waiting.tail }
      else engineOf s q := by
  unfold arrive
  by_cases hb : r.received = true
  · simp [hb]
  · by_cases hp : r.port = .handle <;> simp [hb, hp, engineOf, clockOut, setEngine]

@[simp] theorem arrive_gates (r : Req) (s : State) : (arrive r s).ports.gates = s.ports.gates := by
  unfold arrive
  split
  · rfl
  · rw [validFrame_ports]
    split <;> simp [clockOut]

@[simp] theorem gateAt_arrive (r : Req) (s : State) (k : Nat) : gateAt (arrive r s) k = gateAt s k := by simp [gateAt]

@[simp] theorem arrive_events (r : Req) (s : State) (q : Port) :
    (engineOf (arrive r s) q).events = (engineOf s q).events := by
  rw [engineOf_arrive]
  split <;> simp_all

@[simp] theorem arrive_subscription (r : Req) (s : State) (q : Port) :
    (engineOf (arrive r s) q).subscription = (engineOf s q).subscription := by
  rw [engineOf_arrive]
  split <;> simp_all

@[simp] theorem effTier_arrive (r : Req) (s : State) : effTier (arrive r s) r = effTier s r := by
  simp only [effTier, portTier]
  cases r.port <;> simp

@[simp] theorem profileAt_arrive (r : Req) (s : State) (k : Nat) : profileAt (arrive r s) k = profileAt s k := by
  simp [profileAt]

@[simp] theorem activeProfile_arrive (r : Req) (s : State) : activeProfile (arrive r s) = activeProfile s := by
  simp [activeProfile]

@[simp] theorem entryAt_arrive (r : Req) (s : State) (k : Nat) : entryAt (arrive r s) k = entryAt s k := by simp [entryAt]

@[simp] theorem holds_arrive (r : Req) (s : State) (a : Action) : holds (arrive r s) a = holds s a := by simp [holds]

@[simp] theorem docked_arrive (r : Req) (s : State) : docked (arrive r s) = docked s := by simp [docked]

@[simp] theorem evacuating_arrive (r : Req) (s : State) : evacuating (arrive r s) = evacuating s := by simp [evacuating]

@[simp] theorem storeBusy_arrive (r : Req) (s : State) : storeBusy (arrive r s) = storeBusy s := by simp [storeBusy]

@[simp] theorem men_arrive (r : Req) (s : State) : men (arrive r s) = men s := by simp [men]

@[simp] theorem motorStopped_arrive (r : Req) (s : State) : motorStopped (arrive r s) = motorStopped s := by
  simp [motorStopped]

@[simp] theorem atRest_arrive (r : Req) (s : State) : atRest (arrive r s) = atRest s := by apply atRest_congr <;> simp

@[simp] theorem asleep_arrive (r : Req) (s : State) : asleep (arrive r s) = asleep s := by simp [asleep]

@[simp] theorem settling_arrive (r : Req) (s : State) : settling (arrive r s) = settling s := by simp [settling]

/-! ### Answers (R164, R165, R167) -/

theorem engineOf_answer (r : Req) (a : Reply) (s : State) (q : Port) :
    engineOf (answer r a s) q =
      if q = r.port then
        { engineOf s r.port with
          waiting := (engineOf s r.port).waiting ++
            [⟨r.tag, !(engineOf s r.port).events.isEmpty, a.code, a.payload, true⟩]
          inProcess := if r.port = .handle then none else some ⟨r.tag, a.isReset, []⟩ }
      else engineOf s q := by
  simp [answer, formed]

@[simp] theorem answer_gates (r : Req) (a : Reply) (s : State) : (answer r a s).ports.gates = s.ports.gates := by
  simp [answer]

theorem answeredWith_answer (r : Req) (a : Reply) (s : State) : AnsweredWith r a (answer r a s) := by
  simp [AnsweredWith, engineOf_answer]

/-! ### Events (R171) -/

theorem mem_kindSet {k : EventKind} {l : List EventKind} : k ∈ kindSet l ↔ k ∈ l := by
  cases k <;> simp [kindSet, allKinds]

theorem engineOf_raise (k : EventKind) (s : State) (p : Port) : engineOf (raise k s) p = (engineOf s p).take k := by
  cases p <;> rfl

theorem mem_take_events {k j : EventKind} {e : Engine} :
    j ∈ (e.take k).events ↔ j ∈ e.events ∨ (j = k ∧ k ∈ e.subscription) := by
  unfold Engine.take
  split
  · rename_i h
    simp only [List.contains_iff_mem] at h
    rw [mem_kindSet]
    simp [h, or_comm]
  · rename_i h
    simp only [List.contains_iff_mem] at h
    simp only [h, and_false, or_false]

@[simp] theorem take_subscription (k : EventKind) (e : Engine) : (e.take k).subscription = e.subscription := by
  unfold Engine.take
  split <;> rfl

@[simp] theorem take_waiting (k : EventKind) (e : Engine) : (e.take k).waiting = e.waiting := by
  unfold Engine.take
  split <;> rfl

@[simp] theorem take_inProcess (k : EventKind) (e : Engine) : (e.take k).inProcess = e.inProcess := by
  unfold Engine.take
  split <;> rfl

@[simp] theorem take_sending (k : EventKind) (e : Engine) : (e.take k).sending = e.sending := by
  unfold Engine.take
  split <;> rfl

/-- A raised kind is in the set of every port that subscribes to it. -/
theorem raised_raise (k : EventKind) (s : State) : Raised k s (raise k s) := by
  intro p h
  rw [engineOf_raise, mem_take_events]
  exact .inr ⟨rfl, by simpa using h⟩

/-- No event leaves a set where another is raised. -/
theorem raise_keeps_events {j k : EventKind} {s : State} {p : Port} (h : j ∈ (engineOf s p).events) :
    j ∈ (engineOf (raise k s) p).events := by
  rw [engineOf_raise, mem_take_events]
  exact .inl h

/-- What a raised kind's statement needs of later steps: no subscription and no event is lost. -/
theorem Raised.mono {k : EventKind} {s t u : State} (h : Raised k s t)
    (keep : ∀ p, k ∈ (engineOf t p).events → k ∈ (engineOf u p).events) : Raised k s u :=
  fun p hp => keep p (h p hp)

end Sys2Proof.Machine
end

