-- ==== Sys2Proof/Laws/Effects.lean ====
section
/-! SUPPORT. What each shared operation does, said once: the moments, saves and programs, the suction state and the demand, the
charge stage, the fault table, the fill, the power states. -/

namespace Sys2Proof.Machine

variable (s : State)

/-! ### Moments -/

@[simp] theorem reach_clock (t : Nat) : (reach t s).clock = max s.clock t := rfl

/-! ### Store (R177, R178) -/

/-- An owner's value depends on the blocks that own it alone. -/
theorem ownerValue_congr {s t : State} (k : Nat) (h1 : t.budget = s.budget) (h2 : t.dirt = s.dirt)
    (h3 : t.tables = s.tables) (h4 : t.bin = s.bin) (h5 : t.suction = s.suction) (h6 : t.account = s.account)
    (h7 : t.scan = s.scan) : ownerValue t k = ownerValue s k := by
  unfold ownerValue profileAt
  simp only [h1, h2, h3, h4, h5, h6, h7]

/-- A save that is asked for is under way. -/
theorem saveUnderway_save (k : Nat) : SaveUnderway k (save k s) := by
  unfold SaveUnderway save
  split
  · split
    · rename_i h
      left
      simpa using h
    · left
      simp
  · right
    simp only [startProgram, State.setStore_store, State.setStore_clock, Option.some.injEq, Program.mk.injEq, true_and, ms,
      and_true]
    exact (ownerValue_congr k rfl rfl rfl rfl rfl rfl rfl).symm

/-- A save under way stays so through a further save. -/
theorem SaveUnderway.save {k : Nat} {s : State} (h : SaveUnderway k s) (j : Nat) : SaveUnderway k (save j s) := by
  unfold SaveUnderway at *
  have ho : ownerValue (Machine.save j s) k = ownerValue s k := by apply ownerValue_congr <;> simp
  rw [ho]
  rcases h with h | h
  · left
    unfold Machine.save
    split
    · split
      · exact h
      · simp [h]
    · simpa [startProgram] using h
  · right
    have hb : storeBusy s = true := by simp [storeBusy, h]
    unfold Machine.save
    simp only [hb, if_true]
    split <;> simp [h]

theorem SaveUnderway.saveAll {k : Nat} {s : State} (h : SaveUnderway k s) (l : List Nat) :
    SaveUnderway k (saveAll l s) := by
  induction l generalizing s with
  | nil => exact h
  | cons j l ih => exact ih (h.save j)

/-- Every save of a list is under way after it. -/
theorem saveUnderway_saveAll {k : Nat} {l : List Nat} (h : k ∈ l) : SaveUnderway k (saveAll l s) := by
  induction l generalizing s with
  | nil => simp at h
  | cons j l ih =>
    rcases List.mem_cons.1 h with rfl | h
    · exact (saveUnderway_save s k).saveAll l
    · exact ih _ h

/-- A save stands where the store, the clock and the owners stand. -/
theorem SaveUnderway.congr {k : Nat} {s t : State} (h : SaveUnderway k s) (h0 : t.store = s.store)
    (hc : t.clock = s.clock) (ho : ownerValue t k = ownerValue s k) : SaveUnderway k t := by
  unfold SaveUnderway at *
  rw [h0, hc, ho]
  exact h

/-! ### Suction (R53..R57) -/

@[simp] theorem setSuctionState_state (n : SuctionState) : (setSuctionState n s).suction.state = n := by
  unfold setSuctionState
  split
  · assumption
  · simp only [raise_suction]
    split <;> simp [suctionInto]

@[simp] theorem setSuctionState_demand (n : SuctionState) : (setSuctionState n s).suction.demand = s.suction.demand := by
  unfold setSuctionState
  simp only []
  (repeat' split) <;> simp [suctionInto]

@[simp] theorem setSuctionState_lastEnd (n : SuctionState) : (setSuctionState n s).suction.lastEnd = s.suction.lastEnd := by
  unfold setSuctionState
  simp only []
  (repeat' split) <;> simp [suctionInto]

@[simp] theorem setSuctionState_speed (n : SuctionState) : (setSuctionState n s).suction.speed = s.suction.speed := by
  unfold setSuctionState
  simp only []
  (repeat' split) <;> simp [suctionInto]

@[simp] theorem setSuctionState_stop (n : SuctionState) : (setSuctionState n s).suction.stop = s.suction.stop := by
  unfold setSuctionState
  simp only []
  (repeat' split) <;> simp [suctionInto]

/-- P_set is 0 after a change to any state but RUN (R60). -/
theorem setSuctionState_pSet {n : SuctionState} (h : s.suction.state ≠ n) (hr : n ≠ .run) :
    (setSuctionState n s).suction.pSet = 0 := by
  unfold setSuctionState
  simp only [if_neg h]
  (repeat' split) <;> simp [suctionInto, hr]

/-- A change of the suction state raises SUCTION_STATE (R53). -/
theorem raised_setSuctionState {n : SuctionState} (h : s.suction.state ≠ n) :
    ∃ t, setSuctionState n s = raise .suctionState t := by
  unfold setSuctionState
  rw [if_neg h]
  exact ⟨_, rfl⟩

@[simp] theorem endDemand_demand (e : EndReason) : (endDemand e s).suction.demand = none := by
  unfold endDemand
  split
  · assumption
  · simp

@[simp] theorem endDemand_state (e : EndReason) : (endDemand e s).suction.state = s.suction.state := by
  unfold endDemand
  split <;> simp

/-- The reason is recorded where a demand was active (R49). -/
theorem endDemand_lastEnd (e : EndReason) (d : Demand) (h : s.suction.demand = some d) :
    (endDemand e s).suction.lastEnd = e := by
  simp [endDemand, h]

/-- An inhibit cause takes every state but TRIPPED to INHIBITED (R53). -/
theorem inhibit_state (e : EndReason) :
    (inhibit e s).suction.state = if s.suction.state = .tripped then .tripped else .inhibited := by
  unfold inhibit
  split
  · rename_i h
    rcases h with h | h <;> simp [h]
  · rename_i h
    have : ¬s.suction.state = .tripped := fun h' => h (.inl h')
    simp [this]

/-! ### Charge (R130, R141) -/

@[simp] theorem setStage_stage (n : ChargeStage) : (setStage n s).charge.stage = n := by
  unfold setStage
  split
  · assumption
  · simp [stageInto]

@[simp] theorem setStage_cap (n : ChargeStage) : (setStage n s).charge.cap = s.charge.cap := by
  unfold setStage
  split <;> simp [stageInto]

@[simp] theorem setStage_linkFlag (n : ChargeStage) : (setStage n s).charge.linkFlag = s.charge.linkFlag := by
  unfold setStage
  split <;> simp [stageInto]

@[simp] theorem enterHold_stage : (enterHold s).charge.stage = .hold := by simp [enterHold, zeroGrants]

/-- HOLD has no grants, no termination run and no bleed (R130). -/
theorem enterHold_grants :
    (enterHold s).charge.curGrant = 0 ∧ (enterHold s).charge.voltGrant = 0 ∧ (enterHold s).charge.termRun = 0 ∧
      (enterHold s).charge.balance = [] := by
  simp [enterHold, zeroGrants]

/-! ### Faults (R149, R152) -/

@[simp] theorem setEntries_lastSeq (l : List FaultEntry) : (setEntries l s).faults.lastSeq = s.faults.lastSeq := by
  simp [setEntries]

@[simp] theorem judgeFaults_lastSeq (m : MeasurementSet) : (judgeFaults m s).faults.lastSeq = m.seq := by
  simp [judgeFaults]

@[simp] theorem judgeFaults_entries (m : MeasurementSet) : (judgeFaults m s).faults.entries = judgeTable s m := by
  simp [judgeFaults, setEntries]

@[simp] theorem setEntries_entries (l : List FaultEntry) : (setEntries l s).faults.entries = l := by
  simp [setEntries]

theorem entryAt_setEntry (n k : Nat) (e : FaultEntry) (h : n < s.faults.entries.length) :
    entryAt (setEntry n e s) k = if k = n then e else entryAt s k := by
  unfold entryAt setEntry
  rw [setEntries_entries, List.getD_eq_getElem?_getD, List.getD_eq_getElem?_getD, List.getElem?_set]
  split
  · rename_i hk
    subst hk
    rw [if_pos rfl]
    rfl
  · rename_i hk
    rw [if_neg (Ne.symm hk)]

/-- A one-shot latches its entry, counts it, keeps its value, and leaves it absent at once (R149). -/
theorem entryAt_oneShot (n k : Nat) (v : Int) (h : n < s.faults.entries.length) (he : (entryAt s n).enabled = true) :
    entryAt (oneShot n v s) k = if k = n then qualify true s.scan.seq v (entryAt s n) else entryAt s k := by
  unfold oneShot
  rw [if_pos he, entryAt_setEntry s n k _ h]

/-! ### Fill (R104..R107) -/

@[simp] theorem setFill_bin (f full : Nat) : (setFill f full s).bin = { s.bin with f := f, fFull := full } := by
  simp [setFill, fillEvents]

@[simp] theorem changeF_bin (f : Nat) (always : Bool) : (changeF f always s).bin = { s.bin with f := f } := by
  simp [changeF]

/-! ### Power (R182, R185, R186) -/

/-- What an entry into ACTIVE sets. -/
theorem enterActive_power (w : WakeSource) :
    (enterActive w s).power.mode = .active ∧ (enterActive w s).power.lastWake = w ∧
      (enterActive w s).power.dwellSince = none ∧ (enterActive w s).power.activeSince = s.clock ∧
      (enterActive w s).scan.inProgress = some s.clock ∧ (enterActive w s).scan.nextStart = some (s.clock + 10000) ∧
      (enterActive w s).budget.record.short = false ∧ (enterActive w s).faults.handleSince = s.clock := by
  simp only [enterActive, startScan, raise_power, raise_scan, raise_budget, raise_faults, State.setScan_power,
    State.setScan_scan, State.setScan_budget, State.setScan_faults]
  cases asleep s <;> simp [scanPeriod, ms]

/-- What an entry into STANDBY sets. -/
theorem enterStandby_power :
    (enterStandby s).power.mode = .standby ∧ (enterStandby s).power.dwellSince = some s.clock ∧
      (enterStandby s).budget.record.s = 0 ∧ (enterStandby s).budget.record.b = 0 ∧
      (enterStandby s).scan.nextStart = some (s.scan.lastStart + 250000) := by
  simp [enterStandby, budgetLeaveActive, ms]

end Sys2Proof.Machine
end

