-- ==== Sys2Proof/Laws/Slots.lean ====
section
/-! SUPPORT. The checks of the store's values and the states of its slots, as the words of the statements say them: one
equivalence for each check of the model. -/

namespace Sys2Proof.Machine

/-- The lengths a tag admits are those of the tag table. -/
theorem lengthFits_iff (t n : Nat) : lengthFits t n = true ↔ TagLength t n := by
  have table : (∃ k, 2 ≤ k ∧ k ≤ 8 ∧ n = 1 + 3 * k) ↔ 7 ≤ n ∧ n ≤ 25 ∧ n % 3 = 1 :=
    ⟨fun ⟨k, h⟩ => by omega, fun h => ⟨n / 3, by omega⟩⟩
  have profile : (∃ k, k ≤ 4 ∧ n = 13 + 2 * k) ↔ 13 ≤ n ∧ n ≤ 21 ∧ n % 2 = 1 :=
    ⟨fun ⟨k, h⟩ => by omega, fun h => ⟨(n - 13) / 2, by omega⟩⟩
  unfold lengthFits TagLength
  rw [table, profile]
  repeat' split
  all_goals simp only [Bool.and_eq_true, decide_eq_true_eq, beq_iff_eq]; omega

theorem calOk_iff (c : CalPair) : calOk c = true ↔ PairGood c.gain c.offset := by
  simp [calOk, PairGood, and_assoc]

theorem contentsOk_iff (c : ProfileContents) : contentsOk c = true ↔ ContentsGood c := by
  simp [contentsOk, ContentsGood, and_assoc]

/-- The neighbours of a list, two ways. -/
theorem neighbours_iff (l : List Point) :
    ((l.zip l.tail).all fun q => decide (q.1.x < q.2.x)) = true ↔
      ∀ i a b, l[i]? = some a → l[i + 1]? = some b → a.x < b.x := by
  induction l with
  | nil => simp
  | cons p rest ih =>
    cases rest with
    | nil => simp
    | cons q rest =>
      simp only [List.tail_cons, List.zip_cons_cons, List.all_cons, Bool.and_eq_true, decide_eq_true_eq] at ih ⊢
      rw [ih]
      constructor
      · rintro ⟨hpq, h⟩ (_ | i) a b ha hb
        · simp_all
        · exact h i a b (by simpa using ha) (by simpa using hb)
      · exact fun h => ⟨h 0 p q rfl rfl, fun i a b ha hb => h (i + 1) a b (by simpa using ha) (by simpa using hb)⟩

/-- The checks of a list with an x range of its own. -/
theorem pointsOk_iff (lo hi : Int) (l : List Point) :
    pointsOk lo hi l = true ↔ 2 ≤ l.length ∧ l.length ≤ 8 ∧
      (∀ i a b, l[i]? = some a → l[i + 1]? = some b → a.x < b.x) ∧ ∀ a ∈ l, a.p ≤ 100 ∧ lo ≤ a.x ∧ a.x ≤ hi := by
  have points : (l.all fun q => decide (lo ≤ q.x) && decide (q.x ≤ hi) && decide (q.p ≤ 100)) = true ↔
      ∀ a ∈ l, a.p ≤ 100 ∧ lo ≤ a.x ∧ a.x ≤ hi := by
    simp only [List.all_eq_true, Bool.and_eq_true, decide_eq_true_eq]
    exact forall₂_congr fun _ _ => by omega
  rw [← neighbours_iff, ← points]
  simp only [pointsOk, Bool.and_eq_true, decide_eq_true_eq, and_assoc]
  exact and_congr_right fun _ => and_congr_right fun _ => and_comm

/-- The checks of a list are those of R19. -/
theorem tableOk_iff (index : Nat) (l : List Point) : tableOk index l = true ↔ TableGood index l := by
  unfold tableOk TableGood
  split <;> simp [pointsOk_iff, *]

/-- A slot hands the value it holds while it is VALID. -/
theorem handed_eq_some_iff (slots : List Slot) (t : Nat) (v : List Byte) : handed slots t = some v ↔ StoredAt slots t v := by
  unfold handed StoredAt
  rw [← lengthFits_iff]
  split
  · rename_i tag length value check h
    rw [h]
    simp only [slotState, entryCheck]
    constructor
    · intro hv
      split at hv <;> rename_i hs <;> simp_all
    · rintro ⟨he, hl⟩
      cases he
      simp [hl]
  · rename_i h
    simp only [reduceCtorEq, false_iff, not_and]
    exact fun he => absurd he (h _ _ _ _)

/-- Where nothing is handed, the built-in default is. -/
theorem handed_eq_none_iff (slots : List Slot) (t : Nat) : handed slots t = none ↔ Unstored slots t := by
  simp only [Unstored, ← handed_eq_some_iff]
  cases handed slots t <;> simp

/-- A slot is BAD where it is not BLANK and holds no value. -/
theorem slotState_bad_iff (slots : List Slot) (t : Nat) :
    slotState t (slotAt slots t) = .bad ↔ BadSlot slots t := by
  unfold BadSlot
  rw [← handed_eq_none_iff]
  unfold handed
  cases h : slotAt slots t with
  | blank => simp [slotState]
  | torn n => simp [slotState]
  | entry tag length value check =>
    simp only [slotState]
    split <;> simp

end Sys2Proof.Machine
end

