-- ==== Sys2Proof/Tests/Slice0.lean ====
section
/-! SUPPORT. Small tests: the manual's worked examples, an ill-formed command for each check of WellFormed, and for each
statement with hypotheses a concrete state and operands that meet them, each clause at a boundary value. -/

namespace Sys2Proof.Tests

-- One evaluation at a time: many at once would each hold a thread.
set_option Elab.async false

open Sys2Proof Sys2Proof.Machine

/-! ### States -/

/-- The state a step answered, or the state before where it answered none. -/
def after (o : Host.Outcome State Fault Refusal) (s : State) : State :=
  match o with
  | .next t => t
  | .fault _ => s
  | .refused _ => s

/-- After a reset, with the settling interval over. -/
def awake : State := State.reset.setPower { State.reset.power with settlingUntil := none }

/-- Asleep. -/
def dormant : State :=
  awake.setPower { awake.power with mode := .dormant }

/-- Shelved. -/
def shelved : State := awake.setPower { awake.power with mode := .shelf }

/-- Standing by. -/
def standby : State := awake.setPower { awake.power with mode := .standby, dwellSince := some 0 }

/-- A request at the port's own tier. -/
def rq (p : Port) : Req := ⟨p, 5, 0, true, false, 0⟩

/-- In the dock with the service strap, so that tier 0 is reached there. -/
def inDock : State :=
  (awake.setCharge { awake.charge with stage := .negotiating, dockTier := 0 }).setSuction
    { awake.suction with state := .inhibited }

/-- In the dock, charging with a grant. -/
def charging : State :=
  inDock.setCharge { inDock.charge with
    stage := .cc, cap := some ⟨3000, 29400⟩, curGrant := 3000, voltGrant := 29400, holdAt := some 1000000, fCharge := 100 }

/-- An open exchange. -/
def evac : State :=
  ((inDock.setCharge { inDock.charge with stage := .hold }).setBin
    { inDock.bin with evac := .granted, evacAt := some 60000000 }).setPower { inDock.power with restSince := none }

/-- The motor runs at 40,000 rpm for a demand of the handle, with 120 W granted and a window open. -/
def running : State :=
  (((awake.setSuction { awake.suction with
      state := .run, demand := some ⟨.handle, 250000, none⟩, speed := 40000, lastPulse := some 0, pSet := 120 }).setDirt
    { awake.dirt with window := some ⟨0, defaultSensing, 6, 0, false, true⟩ }).setPower
    { awake.power with restSince := none }).setBudget
    { awake.budget with record := { clearBudget with s := 120, pAvail := 444, pAllow := 450 } }

/-- A head of the motorised type, announced, its rail on. -/
def headed : State :=
  awake.setHead { awake.head with attached := true, identRead := true, announced := true, type := .motorBrush, id := some 7 }

/-- Every raw code the same. -/
def codes (n : Nat) : PerChannel Nat := allChannels n

/-- An engine with a request in process. -/
def busyEngine (p : Port) (s : State) : State :=
  setEngine p { engineOf s p with inProcess := some ⟨3, false, []⟩ } s

/-- A response that waits. -/
def waitingBusy : Response := ⟨3, false, .busy, .empty, false⟩

/-- The state after a scan of raw codes, `wait` µs after the command before it. -/
def scan (wait : Nat) (raw : PerChannel Nat) (s : State) : State := after (exec (.scanComplete wait raw) s) s

/-- Raw codes at no load: cells at 3310 mV, no current. -/
def quietCodes : PerChannel Nat := { allChannels 2711 with packI := 2048 }

/-- Raw codes of a battery at 25 °C: every cell at a code, no current. -/
def warmCodes (cell : Nat) : PerChannel Nat := { allChannels cell with packI := 2048, tempA := 1600, tempB := 1600 }

/-- Raw codes of cells at a code, 25 °C, no current at all. -/
def lowCodes (cell : Nat) : PerChannel Nat := { warmCodes cell with motorI := 1, brushI := 1 }

/-- Not the first scan. -/
def later (s : State) : State := s.setScan { s.scan with firstScan := false }

/-! ### The manual's worked examples -/

/-- 09, Frame format: the READ of IDENT with tag 1 and requested tier 2 has the check 6Dh. -/
theorem test_crc_of_ident_read : crc8 [0x05, 0x12, 0x01, 0x00, 0x00, 0x00] = 0x6D#8 := by decide +kernel

/-- 09, Frame format: the same frame passes whole and fails with a wrong check or cut short; a poll is the handle's alone. -/
theorem test_frame_check :
    frameOk .head [0x05, 0x12, 0x01, 0x00, 0x00, 0x00, 0x6D] = true ∧
      frameOk .head [0x05, 0x12, 0x01, 0x00, 0x00, 0x00, 0x6C] = false ∧
      frameOk .head [0x05, 0x12, 0x01, 0x00, 0x00, 0x00] = false ∧
      frameTag [0x05, 0x12, 0x01, 0x00, 0x00, 0x00, 0x6D] = 1 ∧ frameOk .handle [0, 0] = true ∧
      frameOk .head [0, 0] = false := by decide +kernel

/-- 01, Worked example: lookups. -/
theorem test_lookup_examples :
    lookup defaultDis 52 = 75 ∧ lookup defaultDis 57 = 39 ∧ lookup defaultDis 61 = 0 ∧ lookup defaultDis (-25) = 40 ∧
      lookup defaultDis 10 = 100 ∧ lookup defaultChg 7 = 70 ∧ lookup defaultChg 48 = 40 ∧
      lookup defaultOcv 3690 = 38 ∧ lookup defaultOcv 3520 = 12 := by decide +kernel

/-- A set with one pack current over one elapsed time. -/
def setOf (current : Int) (elapsed : Nat) : MeasurementSet :=
  ⟨1, { allChannels 0 with packI := current }, allChannels false, 0, 0, 0, 0, elapsed⟩

/-- Q_rem and the residue after counting one scan from given ones. -/
def counted (qRem : Nat) (residue current : Int) (elapsed : Nat) : Nat × Int :=
  ((countScan (setOf current elapsed) { State.reset.account with qRem := qRem, residue := residue }).qRem,
    (countScan (setOf current elapsed) { State.reset.account with qRem := qRem, residue := residue }).residue)

/-- 01, Worked example: counting across scans (scan n, a charge in CC, a DORMANT check scan). -/
theorem test_counting_examples :
    counted 1851 3590000 12500 10 = (1850, 115000) ∧ counted 1850 (-3580000) (-3000) 10 = (1851, -10000) ∧
      counted 1850 1000000 12 60000 = (1850, 1720000) := by decide +kernel

/-- 02, The worked examples' voltage deratings. -/
theorem test_voltage_derating :
    voltageDerating 3400 3000 3310 = 77 ∧ voltageDerating 3400 3000 3044 = 11 ∧ voltageDerating 3400 3000 3041 = 10 ∧
      voltageDerating 3400 3000 3003 = 0 ∧ voltageDerating 3400 3000 3004 = 1 := by decide +kernel

/-- 05, Worked example: scores, effective thresholds on HIGH_PILE, a rise, and the tenth close below the mark. -/
theorem test_dirt_examples :
    scoreOf 26 120 = 43 ∧ scoreOf 54 160 = 67 ∧ scoreOf 60 200 = 60 ∧ effective defaultLevels .highPile = (68, 204, 510) ∧
      levelNext (40, 120, 300) 120 1 0 = (2, 0) ∧ levelNext (40, 120, 300) 66 2 0 = (2, 1) ∧
      levelNext (40, 120, 300) 0 2 9 = (1, 0) := by decide +kernel

/-- 10, Slots and tags: numbers in bytes, least significant first, signed ones in two's complement. -/
theorem test_bytes : leBytes 2 250 = [0xFA, 0x00] ∧ leSigned 2 (-20) = [0xEC, 0xFF] ∧ leInt [0xEC, 0xFF] = -20 := by
  decide +kernel

/-- R176: a never-programmed store gives the built-in defaults and no condition. -/
theorem test_load_of_blank_store :
    (loadStore true (List.replicate 40 .blank)).integrity = [] ∧ (loadStore true (List.replicate 40 .blank)).holdTime = 250 := by
  decide +kernel

/-- Forty BLANK slots but for one. -/
def oneSlot (t : Nat) (x : Slot) : List Slot := (List.replicate 40 Slot.blank).set (t - 1) x

/-- R176, R27, R52, R110: a stored value inside its range is handed; one outside gives its default and its tag; a BAD slot too; and
V_knee 3049 with V_floor's default fails the joint check. -/
theorem test_load_of_slots :
    (loadStore true (oneSlot 37 (entryOf 37 (leBytes 2 300)))).holdTime = 300 ∧
      (loadStore true (oneSlot 37 (entryOf 37 (leBytes 2 300)))).integrity = [] ∧
      (loadStore true (oneSlot 36 (entryOf 36 (leBytes 2 999)))).fFull = 40000 ∧
      (loadStore true (oneSlot 36 (entryOf 36 (leBytes 2 999)))).integrity = [36] ∧
      (loadStore true (oneSlot 40 (.torn 0))).integrity = [40] ∧ badCount (oneSlot 40 (.torn 0)) = 1 ∧
      (loadStore true (oneSlot 16 (entryOf 16 (leBytes 2 3049)))).vKnee = 3400 ∧
      (loadStore true (oneSlot 16 (entryOf 16 (leBytes 2 3049)))).integrity = [17, 16, 17] := by decide +kernel

/-- The state of 02's worked example: level 2, HARD, a claim of 45 W. -/
def exampleBefore : State :=
  (running.setHead { headed.head with claim := 45, floor := .hard }).setDirt { running.dirt with level := 2 }

/-- Its scan: raw 2711 of a cell is 3310 mV, raw 2284 of a pack sensor 52 °C. -/
def exampleCodes : PerChannel Nat :=
  { allChannels 2711 with
    packI := 2049, motorI := 1, brushI := 1, tempA := 2284, tempB := 2284, tempStage := 1600, dockV := 1 }

/-- The budget record after it. -/
def exampleRecord : BudgetRecord := (after (exec (.scanComplete 100 exampleCodes) exampleBefore) exampleBefore).budget.record

/-- 02, Worked example: one evaluation, through a whole scan. -/
theorem test_budget_evaluation :
    exampleRecord.fTemp = 75 ∧ exampleRecord.fVolt = 77 ∧ exampleRecord.pAllow = 259 ∧ exampleRecord.pAvail = 253 ∧
      exampleRecord.sTarget = 200 ∧ exampleRecord.sFloor = 40 ∧ exampleRecord.b = 45 ∧ exampleRecord.s = 200 ∧
      exampleRecord.limited = false := by decide +kernel

/-- A press of the handle at rest. -/
def pressed : State := after (exec (.trigger (rq .handle) 1) awake) awake

/-- 03: a press at rest creates the demand and goes to SPIN_UP, as its answer says. -/
theorem test_press :
    pressed.suction.state = .spinUp ∧ pressed.suction.demand = some ⟨.handle, 250000, none⟩ ∧
      (engineOf pressed .handle).waiting.map Response.payload = [.suctionState .spinUp] := by decide +kernel

/-- No row of the table has bits. -/
theorem test_no_word_spells_a_command : decodeTableWord 8 1 = none := rfl

/-! ### An ill-formed command for each check of WellFormed -/

/-- A request whose tag does not fit four bits. -/
def badTag : Req := ⟨.handle, 16, 0, true, false, 0⟩

/-- A request whose tier does not fit two bits. -/
def badTier : Req := ⟨.handle, 0, 4, true, false, 0⟩

theorem test_wellFormed_request :
    (Instr.reset badTag).wellFormed = false ∧ (Instr.unlock badTier).wellFormed = false ∧
      (Instr.unlock { rq .dock with received := true }).wellFormed = false ∧
      (Instr.unlock { rq .handle with received := true }).wellFormed = true ∧
      (Instr.unlock { rq .handle with clocks := 9 }).wellFormed = true ∧
      (Instr.unlock { rq .dock with clocks := 9 }).wellFormed = false ∧
      (Instr.unlock { rq .handle with received := true, clocks := 9 }).wellFormed = false := by decide +kernel

theorem test_wellFormed_codes :
    (Instr.scanComplete 0 (codes 4095)).wellFormed = true ∧ (Instr.scanComplete 0 (codes 4096)).wellFormed = false := by
  decide +kernel

theorem test_wellFormed_links :
    (Instr.responseTransmitStart .handle).wellFormed = false ∧ (Instr.responseSent .handle).wellFormed = false ∧
      (Instr.frameByteTimeout .handle []).wellFormed = false ∧
        (Instr.frameByteTimeout .head [5, 0x12, 1, 0, 0, 0, 0x6D]).wellFormed = false ∧
      (Instr.frameFail .head [5, 0x12, 1, 0, 0, 0, 0x6D]).wellFormed = false := by decide +kernel

theorem test_wellFormed_reads :
    (Instr.read (rq .handle) 0 0).wellFormed = false ∧ (Instr.read (rq .handle) 9 0).wellFormed = false ∧
      (Instr.read (rq .handle) 17 0).wellFormed = false ∧ (Instr.read (rq .handle) 2 2).wellFormed = false ∧
      (Instr.readHistory (rq .handle) (.sequence 4294967296)).wellFormed = false ∧
      (Instr.readHistory (rq .handle) (.newest 256)).wellFormed = false ∧
      (Instr.readHistory (rq .handle) (.other 256)).wellFormed = false := by decide +kernel

theorem test_wellFormed_numbers :
    (Instr.writeAccount (rq .dock) (some 65536) none).wellFormed = false ∧
      (Instr.writeAccount (rq .dock) none (some 65536)).wellFormed = false ∧
      (Instr.writeSuctionParams (rq .dock) 65536).wellFormed = false ∧
      (Instr.announce (rq .head) 256 0 0).wellFormed = false ∧
      (Instr.announce (rq .head) 0 4294967296 0).wellFormed = false ∧
      (Instr.announce (rq .head) 0 0 65536).wellFormed = false ∧
      (Instr.writeBin (rq .dock) (some 65536) none).wellFormed = false ∧
      (Instr.mode (rq .handle) 256).wellFormed = false ∧ (Instr.trigger (rq .handle) 256).wellFormed = false ∧
      (Instr.boost (rq .handle) 256).wellFormed = false ∧ (Instr.brushClaim (rq .head) 65536).wellFormed = false ∧
      (Instr.floorReport (rq .head) 256).wellFormed = false ∧
      (Instr.chargeRequest (rq .dock) 65536 0 false).wellFormed = false ∧
      (Instr.chargeRequest (rq .dock) 0 65536 false).wellFormed = false ∧
      (Instr.evacDone (rq .dock) 256).wellFormed = false := by decide +kernel

theorem test_wellFormed_indices :
    (Instr.writeTables (rq .dock) 3 []).wellFormed = false ∧
      (Instr.writeProfile (rq .dock) 8 0 .absent).wellFormed = false ∧
      (Instr.writeProfile (rq .dock) 0 256 .absent).wellFormed = false ∧
      (Instr.writeFault (rq .dock) 18 none false).wellFormed = false ∧ (Instr.clear (rq .dock) 18).wellFormed = false ∧
      (Instr.writeGate (rq .dock) 16 ⟨none, none, none, none, none, false⟩).wellFormed = false ∧
      (Instr.writeStore (rq .dock) 0 0 []).wellFormed = false ∧ (Instr.writeStore (rq .dock) 41 0 []).wellFormed = false ∧
      (Instr.writeStore (rq .dock) 1 256 []).wellFormed = false ∧
      (Instr.writeStore (rq .dock) 1 0 (List.replicate 33 0)).wellFormed = false := by decide +kernel

theorem test_wellFormed_payloads :
    (Instr.writeTables (rq .dock) 0 [⟨32768, 0⟩]).wellFormed = false ∧
      (Instr.writeTables (rq .dock) 0 [⟨0, 256⟩]).wellFormed = false ∧
      (Instr.writeProfile (rq .dock) 0 0 (.present ⟨true, 0, 0, 0, 0, 256, []⟩)).wellFormed = false ∧
      (Instr.writeProfile (rq .dock) 0 0 (.present ⟨true, 0, 0, 0, 0, 0, [-32769]⟩)).wellFormed = false ∧
      (Instr.writeBudgetParams (rq .dock) ⟨some 65536, none, none, none⟩).wellFormed = false ∧
      (Instr.writeDirtParams (rq .dock) ⟨none, none, some 256, none, none⟩).wellFormed = false ∧
      (Instr.writeLevelParams (rq .dock) ⟨some 16777216, none, none, none, none, none, none⟩).wellFormed = false ∧
      (Instr.writeGate (rq .dock) 0 ⟨none, some 256, none, none, none, false⟩).wellFormed = false ∧
      (Instr.writeEvents (rq .dock) (some [.binFull, .binFull])).wellFormed = false := by decide +kernel

theorem test_wellFormed_undefined :
    (Instr.undefinedRequest (rq .handle) 2 0 0).wellFormed = true ∧
      (Instr.undefinedRequest (rq .handle) 1 0 0).wellFormed = false ∧
      (Instr.undefinedRequest (rq .handle) 256 0 0).wellFormed = false := by decide +kernel

/-! ### Frames in bytes (09, Frame format) -/

/-- R162: the READ of IDENT of the manual's example. -/
def identFrame : List Byte := [0x05, 0x12, 0x01, 0x00, 0x00, 0x00, 0x6D]

/-- A tag 5 UNLOCK of STORE index 0: operation 6, table 15, index 0, generation 0, no payload. -/
def unlockFrame : List Byte := [0x05, 0x50, 0x06, 0x0F, 0x00, 0x00, 0x44]

/-- A tag 7 WRITE of STORE index 37: the length 2 and the value 012Ch. -/
def storeFrame : List Byte := [0x08, 0x70, 0x02, 0x0F, 0x25, 0x00, 0x02, 0x2C, 0x01, 0x67]

/-- The frames pass their checks, and the rows they spell carry the tag, the tier and what the header and the payload say. -/
theorem test_rows_of_frames :
    frameOk .handle identFrame = true ∧ frameOk .handle unlockFrame = true ∧ frameOk .handle storeFrame = true ∧
      requestRow identFrame = .readIdent ⟨.handle, 1, 2, true, true, 0⟩ ∧
      requestRow unlockFrame = .unlock ⟨.handle, 5, 0, true, true, 0⟩ ∧
      requestRow storeFrame = .writeStore ⟨.handle, 7, 0, true, true, 0⟩ 37 2 [0x2C, 0x01] ∧
      requestRow [0x06, 0x50, 0x04, 0x0C, 0x09, 0x00, 0x00, 0x00] = .clear ⟨.handle, 5, 0, false, true, 0⟩ 9 ∧
      requestRow [0x05, 0x53, 0x02, 0x07, 0x00, 0x00, 0x00] =
        .undefinedRequest ⟨.handle, 5, 3, true, true, 0⟩ 2 7 0 := by decide +kernel

/-- R169: the argument of TRIGGER is the payload's number. -/
theorem test_row_of_press :
    ∃ fits, requestRow [0x06, 0x21, 0x05, 0x0D, 0x01, 0x00, 0x01, 0x00] = .trigger ⟨.handle, 2, 1, fits, true, 0⟩ 1 :=
  ⟨_, rfl⟩

/-- 09, the worked example's BUSY answer to the request with tag 2, with events pending; and a FRAME answer's code; in bytes. -/
theorem test_response_bytes :
    (⟨2, true, .busy, .empty, false⟩ : Response).bytes = [0x02, 0x21, 0x02, 0x63] ∧
      (⟨1, false, .frame, .empty, false⟩ : Response).bytes.getD 2 0 = 3 ∧
      (⟨1, false, .stillPresent, .empty, false⟩ : Response).bytes.getD 2 0 = 12 ∧ emptyFrame = [0x00, 0x00] := by
  decide +kernel

/-! ### Witnesses: the hypotheses of each statement are met -/

theorem witness_StepRunsTheFrontCommand : (awake.setPending [.wakeN, .scanStart]).pending = .wakeN :: [.scanStart] := rfl

theorem witness_EmptyQueueTakesADueTimerOrTicks :
    awake.pending = [] ∧ dueEvents awake = [] ∧ (awake.setClock 10000).pending = [] ∧
      dueEvents (awake.setClock 10000) = .scanStart :: [] := by decide +kernel

theorem witness_SleepingPortsDiscardFrames :
    asleep dormant = true ∧ asleep shelved = true ∧ requestOf (.readEvents (rq .head)) = some (rq .head) := by decide +kernel

/-- The head's engine busy, with some BUSY answers waiting. -/
def busyHead (n : Nat) : State :=
  setEngine .head { engineOf awake .head with inProcess := some ⟨3, false, []⟩, waiting := List.replicate n waitingBusy } awake

theorem witness_BusyPortAnswersBusy :
    requestOf (.readEvents (rq .head)) = some (rq .head) ∧ (Instr.readEvents (rq .head)).wellFormed = true ∧
      asleep (busyHead 3) = false ∧ portBusy (busyHead 3) (rq .head) = true ∧ busyWaiting (engineOf (busyHead 3) .head) < 4 ∧
      asleep (busyHead 4) = false ∧ portBusy (busyHead 4) (rq .head) = true ∧
      4 ≤ busyWaiting (engineOf (busyHead 4) .head) ∧ portBusy (busyEngine .handle awake) (rq .handle) = true := by
  decide +kernel

theorem witness_SettlingAnswersSettling :
    requestOf (.unlock (rq .dock)) = some (rq .dock) ∧ (Instr.unlock (rq .dock)).wellFormed = true ∧
      asleep State.reset = false ∧ claimed State.reset (.unlock (rq .dock)) = true ∧
      claimed State.reset (.undefinedRequest (rq .dock) 1 0 1) = true ∧ portBusy State.reset (rq .dock) = false ∧
      settling State.reset = true ∧
      (Instr.undefinedRequest (rq .dock) 1 0 1).wellFormed = true ∧ Settled State.reset := by
  decide +kernel

/-- The handle's UNLOCK received by a transaction before it. -/
def received : State := after (exec (.handleTransaction unlockFrame false) awake) awake

/-- Its row. -/
def receivedRow : Instr := .unlock { rq .handle with received := true }

theorem witness_ArrivalAndAnswer :
    (rq .handle).received = false ∧ (rq .handle).port = .handle ∧ (rq .dock).port ≠ .handle ∧
      { rq .handle with received := true }.received = true ∧ awake.ports.engine.handle.waiting = [] := by decide +kernel

theorem witness_TierRefusals :
    requestOf (.unlock (rq .handle)) = some (rq .handle) ∧ (Instr.unlock (rq .handle)).wellFormed = true ∧
      tierNeeded awake (.unlock (rq .handle)) = some 0 ∧ judged awake (.unlock (rq .handle)) = true ∧
      0 < effTier awake (rq .handle) ∧ Settled awake ∧
      -- and as the row of a request received before
      requestOf receivedRow = some { rq .handle with received := true } ∧ receivedRow.wellFormed = true ∧
      tierNeeded received receivedRow = some 0 ∧ judged received receivedRow = true ∧ Settled received := by decide +kernel

/-- Gate 3 not present. -/
def gateless : State := awake.setPorts { awake.ports with gates := awake.ports.gates.set 3 ⟨false, 2, none, some .power⟩ }

/-- A request whose payload does not fit. -/
def misfit (p : Port) : Req := ⟨p, 5, 0, false, false, 0⟩

theorem witness_RequestChecksComeInOrder_gates :
    requestOf (.sleep (rq .handle)) = some (rq .handle) ∧ invokeOf (.sleep (rq .handle)) = some (3, none) ∧
      judged gateless (.sleep (rq .handle)) = true ∧ Settled gateless ∧
      effTier gateless (rq .handle) ≤ (gateAt gateless 3).tierLimit ∧ (gateAt gateless 3).present = false ∧
      judged awake (.sleep (misfit .handle)) = true ∧ effTier awake (misfit .handle) ≤ (gateAt awake 3).tierLimit ∧
      (gateAt awake 3).present = true ∧ (misfit .handle).fits = false ∧ Settled awake ∧
      invokeOf (.trigger (rq .handle) 2) = some (1, some 2) ∧ (gateAt awake 1).present = true ∧
      judged awake (.trigger (rq .handle) 2) = true ∧ effTier awake (rq .handle) ≤ (gateAt awake 1).tierLimit ∧
      (gateAt awake 1).bound = some ⟨0, 1, .refuse⟩ ∧ ¬(0 ≤ 2 ∧ 2 ≤ 1) := by decide +kernel

/-- A BOOST with no demand. -/
def refusedState : State := after (exec (.boost (rq .handle) 5) awake) awake

theorem witness_RefusedRequestsChangeNothing :
    exec (.boost (rq .handle) 5) awake = .next refusedState ∧ requestOf (.boost (rq .handle) 5) = some (rq .handle) ∧
      (Instr.boost (rq .handle) 5).wellFormed = true ∧ judged awake (.boost (rq .handle) 5) = true ∧ Settled awake ∧
      awake.power.mode = .active ∧
      ((engineOf refusedState .handle).waiting.getLast?.map Response.code) = some .state := by
  exact ⟨rfl, by decide +kernel⟩

/-- A BRUSH_CLAIM refused in STANDBY. -/
def refusedStandby : State := after (exec (.brushClaim (rq .handle) 10) standby) standby

/-- R166 in STANDBY: a claim refused for its cause, and a press refused for its argument, which does not wake the part. -/
theorem witness_RefusedRequestsChangeNothing_standby :
    exec (.brushClaim (rq .handle) 10) standby = .next refusedStandby ∧ judged standby (.brushClaim (rq .handle) 10) = true ∧
      judged standby (.trigger (rq .handle) 2) = true ∧
      Settled standby ∧ ((engineOf refusedStandby .handle).waiting.getLast?.map Response.code) = some .state ∧
      refusedStandby.power.mode = .standby ∧
      (after (exec (.trigger (rq .handle) 2) standby) standby).power.mode = .standby ∧
      ((engineOf (after (exec (.trigger (rq .handle) 2) standby) standby) .handle).waiting.getLast?.map
        Response.code) = some .range := by
  exact ⟨rfl, by decide +kernel⟩

theorem witness_RequestChecksComeInOrder :
    (∀ q ∈ [(1, 17, 0), (1, 16, 1), (2, 16, 0), (5, 13, 10), (5, 13, 15)],
      judged awake (.undefinedRequest (rq .handle) q.1 q.2.1 q.2.2) = true) ∧ Settled awake ∧ 16 < 17 ∧ lastIndex 16 < 1 ∧
        (16 ≤ 16 ∧ 0 ≤ lastIndex 16) ∧
      opDefined .handle 2 16 0 = false ∧ 10 ≤ 10 ∧ 15 ≤ 15 := by decide +kernel

theorem witness_ReadsReturnTheRecord :
    (Instr.read (rq .head) 16 0).wellFormed = true ∧ (Instr.read (rq .head) 1 0).wellFormed = true ∧
      judged headed (.read (rq .head) 16 0) = true ∧
      judged headed (.read (rq .head) 1 0) = true ∧ Settled headed ∧ (rq .head).fits = true ∧ asleep State.reset = false ∧
      portBusy State.reset (rq .head) = false ∧ Settled State.reset ∧
      claimed State.reset (.readIdent (rq .head)) = true ∧ claimed headed (.readIdent (rq .head)) = true ∧
      headed.head.attached = true ∧
      asleep headed = false ∧ portBusy headed (rq .head) = false := by decide +kernel

/-- A slot programmed, a scan taken, an exchange open: what the clauses of a READ ask for. -/
theorem witness_ReportedValues :
    awake.scan.latest = none ∧ (scan 100 quietCodes awake).scan.latest.isSome = true ∧
      running.suction.demand = some ⟨.handle, 250000, none⟩ ∧ awake.suction.demand = none ∧
      running.dirt.window = some ⟨0, defaultSensing, 6, 0, false, true⟩ ∧ awake.dirt.window = none ∧
      slotAt awake.store.slots 1 = .blank ∧ 9 ≤ 15 ∧ 17 ≤ 17 ∧
      slotState 37 (slotAt (after (exec .storeProgramComplete (awake.setStore { awake.store with
        program := some ⟨37, leBytes 2 250, 30000⟩ })) awake).store.slots 37) = .valid ∧
      slotAt (awake.store.slots.set 36 (.torn 0)) 37 = .torn 0 := by decide +kernel

/-- A record of the ring. -/
def ringRecord (n : Nat) : WindowRecord := ⟨n, 1, 0, .hard, 120, 1, 0, false, n == 4⟩

/-- Three records in the ring, and the handle's cursor at the second. -/
def ringed : State :=
  awake.setDirt { awake.dirt with
    ring := [ringRecord 4, ringRecord 5, ringRecord 6], seq := 7, cursors := ⟨.at 5, .oldest, .invalid⟩ }

theorem witness_HistoryReadsPageThroughTheRing :
    (∀ x ∈ [.sequence 4, .newest 64, .newest 63, .other 2], judged ringed (.readHistory (rq .handle) x) = true) ∧
      judged ringed (.readContinue (rq .handle)) = true ∧ Settled ringed ∧ (rq .handle).fits = true ∧ 63 < 64 ∧ 63 ≤ 63 ∧
      ringed.dirt.cursors.get .dock = .invalid ∧ ringed.dirt.cursors.get .handle ≠ .invalid ∧
      judged ringed (.readContinue (rq .dock)) = true := by decide +kernel

theorem witness_HistoryReadsPageThroughTheRing_ring :
    RingLaw ringed ∧ Cursor.at 5 ≠ .invalid ∧ Cursor.at 7 ≠ .invalid ∧ Cursor.oldest ≠ .invalid ∧ ringRecord 5 ∈ ringed.dirt.ring ∧
      (ringRecord 5).seq = 5 ∧ ringRecord 6 ∈ ringed.dirt.ring ∧ (ringRecord 6).seq = (ringRecord 5).seq + 1 ∧
      (readRing .handle (.at 5) ringed).2 = okReply (.history [ringRecord 5, ringRecord 6] true false) ∧
      (readRing .handle (.at 7) ringed).2 = okReply (.history [] true false) := by decide +kernel

theorem witness_ReadEventsEmptiesTheSet :
    judged (raise .binFull awake) (.readEvents (rq .handle)) = true ∧ Settled (raise .binFull awake) ∧
      (engineOf (raise .binFull awake) .handle).events = [.binFull] := by decide +kernel

theorem witness_HandleTransactionsAndPolls :
    asleep awake = false ∧ frameOk .handle [0x05, 0x12, 0x01, 0x00, 0x00, 0x00, 0x6D] = true ∧
      framePoll [0x05, 0x12, 0x01, 0x00, 0x00, 0x00, 0x6D] = false ∧ frameOk .handle [5] = false ∧
      (engineOf received .handle).inProcess.isSome = true := by decide +kernel

/-- A response waits for the handle: 4 bytes, and one with a free payload. -/
def waitingHandle (x : Response) : State := setEngine .handle { engineOf awake .handle with waiting := [x] } awake

/-- R163: bytes clocked beyond the part's frame read as 00h; with an empty list the empty response is clocked out; a response that does
not fit in its transaction is lost, and the handle reads it cut short. -/
theorem test_transactions_in_bytes :
    let x : Response := ⟨2, true, .busy, .empty, false⟩
    let seen (c : Instr) (s : State) := (engineOf (after (exec c s) s) .handle).delivered
    seen (.handleTransaction unlockFrame false) (waitingHandle x) = .response x [0x02, 0x21, 0x02, 0x63, 0, 0, 0] ∧
      seen (.handleTransaction unlockFrame false) awake = .empty [0, 0, 0, 0, 0, 0, 0] ∧
      seen (.frameFail .handle [5, 0x12, 1]) (waitingHandle x) = .failing [0x02, 0x21, 0x02] ∧
      seen (.handleTransaction [0, 0] true) (waitingHandle x) = .response x [0x02, 0x21, 0x02, 0x63] ∧
      seen .handlePoll (waitingHandle x) = .response x [0x02, 0x21, 0x02, 0x63] ∧
      seen (.unlock (rq .handle)) (waitingHandle x) = .response x [0x02, 0x21, 0x02, 0x63, 0, 0, 0] ∧
      seen .handlePoll awake = .empty [0, 0] := by decide +kernel

/-- R163: a transaction of 36 bytes has room for every response. -/
theorem test_room_for_every_response (x : Response) : x.bytes.length ≤ 36 := x.bytes_bounds.2

/-- R163, R165: the request received is held whole; its row processes it, and the row of another request with its tag changes
nothing. -/
theorem test_received_request :
    (engineOf received .handle).inProcess = some ⟨5, false, unlockFrame⟩ ∧
      exec (.unlock { rq .handle with received := true, tier := 1 }) received = .next received ∧
      exec (.readEvents { rq .handle with received := true }) received = .next received ∧
      (engineOf (after (exec receivedRow received) received) .handle).inProcess = none ∧
      (engineOf (after (exec receivedRow received) received) .handle).waiting = [⟨5, false, .tier, .needTier 0, true⟩] ∧
      after (step received) received = after (exec receivedRow received) received := by
  have hTier : claimed received (.unlock { rq .handle with received := true, tier := 1 }) = false := by decide +kernel
  have hRow : claimed received (.readEvents { rq .handle with received := true }) = false := by decide +kernel
  have hEmpty : received.pending = [] := by decide +kernel
  have hDue : dueEvent received = some receivedRow := by decide +kernel
  exact ⟨by decide +kernel, by simp only [exec, execUnlock, serve_unclaimed _ _ _ _ hTier],
    by simp only [exec, execReadEvents, serve_unclaimed _ _ _ _ hRow], by decide +kernel, by decide +kernel, by simp only [step,
      hEmpty, hDue]⟩

theorem witness_ReceivedRequestsAreProcessedAsClocked :
    asleep awake = false ∧ frameOk .handle unlockFrame = true ∧ framePoll unlockFrame = false ∧
      (engineOf awake .handle).inProcess = none ∧ exec (.handleTransaction unlockFrame false) awake = .next received ∧
      requestRow unlockFrame = receivedRow ∧ requestOf receivedRow = some { rq .handle with received := true } ∧
      asleep received = false ∧ claimed received receivedRow = true ∧ received.pending = [] ∧
      (engineOf received .handle).inProcess.isSome = true ∧ invokeOf (requestRow [6, 0, 5, 13, 1, 0, 1, 0]) = some (1, some 1) := by
  have hNext : exec (.handleTransaction unlockFrame false) awake = .next received := by
    simp only [received, exec, execHandleTransaction, show asleep awake = false from rfl, Bool.false_eq_true, if_false, after]
  exact ⟨by decide +kernel, by decide +kernel, by decide +kernel, by decide +kernel, hNext, by decide +kernel, by decide +kernel,
    by decide +kernel, by decide +kernel, by decide +kernel, by decide +kernel, rfl⟩

/-- A WRITE of PROFILE with a generation that is not the standing one. -/
def staleWrite : Instr := .writeProfile (rq .dock) 7 1 .absent

/-- R167: a response for each outcome with a payload of its own: TIER, STALE, STATE with a cause and without one, STILL_PRESENT;
and one without a payload. -/
theorem witness_ResponsesAreFilledByTheirOutcome :
    let last (c : Instr) (p : Port) (s : State) := (engineOf (after (exec c s) s) p).waiting.getLast?.map Response.code
    let present := inDock.setFaults { inDock.faults with
      entries := inDock.faults.entries.set 17 { clearEntry with latched := true, present := true } }
    (∀ c ∈ [staleWrite, .binReset (rq .dock), .chargeRequest (rq .dock) 0 0 false, .clear (rq .dock) 17],
      c.wellFormed = true ∧ judged inDock c = true ∧ judged present c = true) ∧
      judged awake (.unlock (rq .handle)) = true ∧ judged awake (.boost (rq .handle) 5) = true ∧
      judged awake (.chargeRequest (rq .dock) 0 0 false) = true ∧ (Instr.boost (rq .handle) 5).wellFormed = true ∧
      last (.unlock (rq .handle)) .handle awake = some .tier ∧ last staleWrite .dock inDock = some .stale ∧
      last (.chargeRequest (rq .dock) 0 0 false) .dock awake = some .state ∧
      last (.boost (rq .handle) 5) .handle awake = some .state ∧
      last (.clear (rq .dock) 17) .dock present = some .stillPresent ∧
      last (.undefinedRequest (rq .dock) 2 16 0) .dock awake = some .kind ∧ 5 < 16 := by decide +kernel

/-- A response that answers a request, waiting on the dock's list. -/
def formedOnDock : State :=
  setEngine .dock { engineOf awake .dock with inProcess := some ⟨3, false, []⟩, waiting := [⟨3, false, .ok, .empty, true⟩] } awake

/-- The same response being transmitted; `isReset` marks a taken RESET in process. -/
def sendingOnDock (isReset : Bool) : State :=
  setEngine .dock
    { engineOf awake .dock with inProcess := some ⟨3, isReset, []⟩, sending := some ⟨3, false, .ok, .empty, true⟩ } awake

theorem witness_ResponsesAreTransmittedInOrder :
    Port.dock ≠ .handle ∧ (engineOf formedOnDock .dock).sending = none ∧
      (engineOf formedOnDock .dock).waiting = ⟨3, false, .ok, .empty, true⟩ :: [] ∧
      (engineOf (sendingOnDock false) .dock).sending = some ⟨3, false, .ok, .empty, true⟩ ∧
      (engineOf (sendingOnDock false) .dock).inProcess = some ⟨3, false, []⟩ ∧
      (engineOf (sendingOnDock true) .dock).inProcess = some ⟨3, true, []⟩ := by decide +kernel

/-- Charging, with two failing frames counted. -/
def twoBad : State := charging.setCharge { charging.charge with badFrames := 2 }

/-- In the dock with two bad frames counted, in a stage. -/
def twoBadIn (n : ChargeStage) : State := inDock.setCharge { inDock.charge with stage := n, badFrames := 2 }

/-- The third bad frame in the stages that do not charge, and a fourth. -/
theorem witness_FailingFrames_others :
    (∀ n ∈ [ChargeStage.hold, .negotiating, .faulted], asleep (twoBadIn n) = false ∧ Settled (twoBadIn n) ∧
      (twoBadIn n).charge.badFrames = 2 ∧ (twoBadIn n).faults.entries.length = 18 ∧
      (entryAt (twoBadIn n) 11).enabled = true) ∧
      3 ≤ (inDock.setCharge { inDock.charge with badFrames := 3 }).charge.badFrames ∧
      Settled (inDock.setCharge { inDock.charge with badFrames := 3 }) := by decide +kernel

theorem witness_FailingFrames :
    asleep twoBad = false ∧ Settled twoBad ∧ frameOk .handle [5] = false ∧ frameOk .head [5] = false ∧
      frameOk .dock [5] = false ∧ twoBad.charge.badFrames = 2 ∧ twoBad.charge.stage.charging = true ∧
      twoBad.faults.entries.length = 18 ∧ (entryAt twoBad 11).enabled = true ∧ asleep charging = false ∧
      Settled charging ∧ docked charging = true ∧ charging.charge.badFrames < 2 ∧
      (charging.setCharge { charging.charge with badFrames := 1 }).charge.badFrames < 2 ∧ docked awake = false ∧
      Settled awake := by decide +kernel

/-- A WRITE of GATE that carries nothing but bounds. -/
def boundsWrite (lo hi : Nat) : GateWrite := ⟨none, none, some lo, some hi, none, false⟩

theorem witness_EventAndGateWritesAreTaken :
    (∀ k ∈ [none, some [EventKind.binFull]], judged inDock (.writeEvents (rq .dock) k) = true) ∧
      (∀ x ∈ [(0, boundsWrite 0 7), (8, boundsWrite 2 2), (0, boundsWrite 3 2), (2, boundsWrite 0 20), (2, boundsWrite 1 21),
        (3, boundsWrite 0 0), (15, boundsWrite 0 0)], judged inDock (.writeGate (rq .dock) x.1 x.2) = true) ∧
      Settled inDock ∧ (rq .dock).fits = true ∧ effTier inDock (rq .dock) = 0 ∧
      (9 ≤ 15 ∧ 15 ≤ 15 ∧ 10 ≤ 10 ∧ 3 < (some 4).getD 0 ∧ (some 3).getD 2 ≤ 3) ∧
      (gateAt inDock 0).bound = some ⟨0, 7, .refuse⟩ ∧ (gateAt inDock 8).bound = some ⟨0, 2, .refuse⟩ ∧
      (gateAt inDock 3).bound = none ∧
      -- taken: gate 0 over its whole range, gate 8 down to one value
      (0 ≤ (boundsWrite 0 7).hi.getD 7 ∧ (boundsWrite 0 7).hi.getD 7 ≤ 7 ∧
        (boundsWrite 2 2).lo.getD 0 ≤ (boundsWrite 2 2).hi.getD 2 ∧ (boundsWrite 2 2).target = false) ∧
      -- refused: the minimum above the maximum, below and above gate 2's built-in range, bounds on gate 3
      ((boundsWrite 3 2).hi.getD 7 < (boundsWrite 3 2).lo.getD 0 ∧ (boundsWrite 0 20).lo.getD 1 < 1 ∧
        20 < (boundsWrite 1 21).hi.getD 20 ∧ (boundsWrite 0 0).lo.isSome = true) := by decide +kernel

/-- A taken RESET in process whose response has been transmitted. -/
def resetSent (s : State) : State := setEngine .dock { engineOf s .dock with inProcess := some ⟨3, true, []⟩ } s

/-- In the dock with F at 30,000 of an F_full that the store does not hold. -/
def halfFull : State := inDock.setBin { inDock.bin with f := 30000, fFull := 30000 }

theorem witness_ServiceResetValues :
    judged inDock (.reset (rq .dock)) = true ∧ Settled inDock ∧ effTier inDock (rq .dock) = 0 ∧ (rq .dock).fits = true ∧
      resetReady (resetSent inDock) = true ∧ resetReady (sendingOnDock true) = false ∧
      -- and one whose reload of F_full moves the decile
      resetReady (resetSent halfFull) = true ∧
      (after (exec (.serviceReset .high true) (resetSent halfFull)) halfFull).store.program =
        some ⟨40, leBytes 2 30000, 30000⟩ := by decide +kernel

theorem witness_AccountWritesAreTaken :
    (∀ x ∈ [(some 1000, none), (some 6001, some 1), (none, none), (none, some 65535)],
      judged inDock (.writeAccount (rq .dock) x.1 x.2) = true) ∧ Settled inDock ∧ effTier inDock (rq .dock) = 0 ∧
        (rq .dock).fits = true ∧
      (1000 ≤ 1000 ∧ 6000 ≤ 6000) ∧ ¬(1000 ≤ 999 ∧ 999 ≤ 6000) ∧ ¬(1000 ≤ 6001 ∧ 6001 ≤ 6000) ∧ 65535 ≤ 65535 ∧
      inDock.account.cycleCount ≤ 65535 := by decide +kernel

/-- A point list that fails: one point. -/
def shortList : List Point := [⟨0, 0⟩]

/-- In the dock with a program in progress. -/
def programming : State :=
  inDock.setStore { inDock.store with program := some ⟨37, leBytes 2 250, 30000⟩, queue := [40], locked := false }

/-- In the dock after a scan. -/
def scanned : State := inDock.setScan { inDock.scan with latest := some (setOf 0 10) }

theorem witness_TableWritesAreTaken :
    judged inDock (.writeTables (rq .dock) 2 defaultChg) = true ∧ Settled inDock ∧ effTier inDock (rq .dock) ≤ 0 ∧
      (rq .dock).fits = true ∧
      storeBusy inDock = false ∧ judged programming (.writeTables (rq .dock) 2 defaultChg) = true ∧ Settled programming ∧
      storeBusy programming = true ∧ docked inDock = true ∧ scanned.scan.latest = some (setOf 0 10) ∧
      docked scanned = true ∧ scanned.charge.stage = .negotiating ∧ judged scanned (.writeTables (rq .dock) 2 defaultChg) = true ∧
      Settled scanned ∧
      storeBusy scanned = false ∧ charging.charge.stage.charging = true := by decide +kernel

/-- A list that passes every check, one at the ends of its ranges, and the lists that fail one check each. -/
theorem witness_TableWritesAreTaken_lists :
    TableGood 2 defaultChg ∧ TableGood 1 defaultDis ∧ TableGood 0 [⟨0, 0⟩, ⟨5000, 100⟩] ∧ ¬TableGood 0 shortList ∧
      ¬TableGood 1 [⟨0, 0⟩, ⟨0, 1⟩] ∧ ¬TableGood 2 [⟨-41, 0⟩, ⟨0, 1⟩] ∧ ¬TableGood 0 [⟨0, 0⟩, ⟨5001, 1⟩] ∧
      ¬TableGood 0 [⟨0, 0⟩, ⟨1, 101⟩] := by
  simp only [← tableOk_iff]; decide +kernel

/-- In the dock with the factory segment unlocked. -/
def unlocked : State := inDock.setStore { inDock.store with locked := false }

/-- The four parameter writes are judged in a state. -/
def ready (s : State) : Bool :=
  judged s (.writeBudgetParams (rq .dock) ⟨some 600, none, none, none⟩) &&
    judged s (.writeDirtParams (rq .dock) ⟨some 10, none, none, none, none⟩) &&
    judged s (.writeLevelParams (rq .dock) ⟨some 1, none, none, none, none, none, none⟩) &&
    judged s (.writeSuctionParams (rq .dock) 50)

theorem witness_ParameterWritesAreTaken :
    ready unlocked = true ∧ Settled unlocked ∧ effTier unlocked (rq .dock) = 0 ∧ (rq .dock).fits = true ∧
      storeBusy unlocked = false ∧ unlocked.store.locked = false ∧ ready inDock = true ∧ Settled inDock ∧
      effTier inDock (rq .dock) = 0 ∧ inDock.store.locked = true ∧ storeBusy inDock = false ∧
      ready programming = true ∧ Settled programming ∧ effTier programming (rq .dock) = 0 ∧
      programming.store.locked = false ∧ storeBusy programming = true := by decide +kernel

/-- What R28 asks of the three parameters. -/
def budgetOk (b k f : Nat) : Bool := 100 ≤ b && b ≤ 600 && 3000 ≤ k && k ≤ 4000 && 2800 ≤ f && f + 50 ≤ k

/-- Both values of `ok`, at the ends of the ranges; and the written values that differ from the standing ones. -/
theorem witness_ParameterWritesAreTaken_ranges :
    budgetOk 100 3000 2800 = true ∧ budgetOk 600 4000 3950 = true ∧ budgetOk 99 3000 2800 = false ∧
      budgetOk 601 3000 2800 = false ∧ budgetOk 450 2999 2800 = false ∧ budgetOk 450 4001 2800 = false ∧
      budgetOk 450 3400 2799 = false ∧ budgetOk 450 3000 2951 = false ∧ 600 ≠ unlocked.budget.pBase ∧
      4000 ≠ unlocked.budget.vKnee ∧ 3950 ≠ unlocked.budget.vFloor ∧
      sensingOk ⟨10, 11, 20, 0, 63⟩ = true ∧ sensingOk ⟨11, 11, 20, 0, 63⟩ = false ∧
      sensingOk ⟨10, 3001, 20, 0, 63⟩ = false ∧ sensingOk ⟨10, 11, 201, 0, 63⟩ = false ∧
      sensingOk ⟨10, 11, 20, 16, 63⟩ = false ∧ sensingOk ⟨10, 11, 20, 0, 64⟩ = false ∧
      10 ≠ defaultSensing.fineTh ∧ 11 ≠ defaultSensing.coarseTh ∧ 20 ≠ defaultSensing.length ∧
      0 ≠ defaultSensing.wFine ∧ 63 ≠ defaultSensing.wCoarse ∧
      levelsOk ⟨1, 2, 1000000, 50, 100, 300, 100⟩ = true ∧ levelsOk ⟨0, 2, 3, 50, 100, 300, 100⟩ = false ∧
      levelsOk ⟨2, 2, 3, 50, 100, 300, 100⟩ = false ∧ levelsOk ⟨1, 2, 1000001, 50, 100, 300, 100⟩ = false ∧
      levelsOk ⟨1, 2, 3, 49, 100, 300, 100⟩ = false ∧ 1 ≠ defaultLevels.l1 ∧ 50 ≠ defaultLevels.hard ∧
      (49 < 50 ∧ 1000 < 1001) ∧ 50 ≤ 1000 := by decide +kernel

/-- Profile contents at the ends of their ranges. -/
def edgeContents : ProfileContents := ⟨true, 10, 10, 600, 600, 100, [-300, 300]⟩

theorem witness_ProfileWritesAreTaken :
    judged inDock (.writeProfile (rq .dock) 7 0 (.present edgeContents)) = true ∧
      judged inDock (.writeProfile (rq .dock) 1 0 .absent) = true ∧ Settled inDock ∧ effTier inDock (rq .dock) ≤ 1 ∧
        (rq .dock).fits = true ∧
      inDock.suction.profiles.length = 8 ∧ 1 ≠ (profileAt inDock 7).generation ∧ 0 = (profileAt inDock 7).generation ∧
      ContentsGood edgeContents ∧ edgeContents.sMin - 1 < 10 ∧ 1 = inDock.suction.activeProfile ∧
      inDock.suction.state ≠ .off ∧ 2 ≠ inDock.suction.activeProfile := by
  rw [← contentsOk_iff]; decide +kernel

theorem witness_BinWritesAndResets :
    judged awake (.binReset (rq .handle)) = true ∧ Settled awake ∧ (rq .handle).fits = true ∧ gateOpen awake 9 (rq .handle) 0 = true ∧
      evacuating awake = false ∧ judged evac (.binReset (rq .handle)) = true ∧ Settled evac ∧ gateOpen evac 9 (rq .handle) 0 = true ∧
      evacuating evac = true ∧ judged inDock (.writeBin (rq .dock) (some 0) (some 999)) = true ∧ effTier inDock (rq .dock) = 0 ∧
      storeBusy inDock = false ∧ (1000 ≤ 1000 ∧ 65535 ≤ 65535) ∧ 999 < 1000 ∧ 65535 < 65536 ∧ fill inDock < 90 ∧
      judged programming (.writeBin (rq .dock) none (some 1000)) = true ∧ Settled programming ∧ effTier programming (rq .dock) = 0 ∧
      storeBusy programming = true ∧ awake.bin.f ≤ 65535 ∧ evac.bin.f ≤ 65535 ∧ inDock.bin.f ≤ 65535 ∧
      programming.bin.f ≤ 65535 := by decide +kernel

/-- One channel latched, its condition present or over. -/
def latchedAt (n : Nat) (present : Bool) (s : State) : State :=
  s.setFaults { s.faults with entries := s.faults.entries.set n { clearEntry with latched := true, present := present } }

/-- Tripped by channel 7, whose condition is over; the motor still turns. -/
def trippedBy7 : State :=
  latchedAt 7 false ((awake.setSuction { awake.suction with state := .tripped, speed := 2000 }).setPower
    { awake.power with restSince := none })

/-- In the dock, faulted by channel 0, whose condition is over. -/
def faultedBy0 : State := latchedAt 0 false (inDock.setCharge { inDock.charge with stage := .faulted })

/-- The rail off for channel 9, whose condition is over. -/
def railOff : State := latchedAt 9 false headed

theorem witness_FaultEntriesAreClearedAndDisabled :
    judged inDock (.clear (rq .dock) 17) = true ∧
      (∀ x ∈ [(some true, false), (some false, false), (none, false), (none, true)],
        judged inDock (.writeFault (rq .dock) 8 x.1 x.2) = true ∧ judged inDock (.writeFault (rq .dock) 17 x.1 x.2) = true) ∧
          Settled inDock ∧ (rq .dock).fits = true ∧ 17 ≤ 17 ∧
      inDock.faults.entries.length = 18 ∧ effTier inDock (rq .dock) ≤ clearTier 0 ∧ (entryAt inDock 17).latched = false ∧
      (entryAt (latchedAt 17 true inDock) 17).present = true ∧ (entryAt (latchedAt 17 true inDock) 17).latched = true ∧
      judged (latchedAt 17 true inDock) (.clear (rq .dock) 17) = true ∧ Settled (latchedAt 17 true inDock) ∧
      judged (latchedAt 9 false inDock) (.clear (rq .dock) 9) = true ∧ Settled (latchedAt 9 false inDock) ∧
      (entryAt (latchedAt 9 false inDock) 9).latched = true ∧ (entryAt (latchedAt 9 false inDock) 9).present = false ∧
      effTier inDock (rq .dock) = 0 := by
  decide +kernel

/-- The release of each action, at the CLEAR that retires its last entry. -/
theorem witness_FaultEntriesAreClearedAndDisabled_releases :
    judged trippedBy7 (.clear (rq .handle) 7) = true ∧ Settled trippedBy7 ∧ effTier trippedBy7 (rq .handle) ≤ clearTier 7 ∧
      (entryAt trippedBy7 7).latched = true ∧ (entryAt trippedBy7 7).present = false ∧
      trippedBy7.faults.entries.length = 18 ∧ holds trippedBy7 .tripSuction = true ∧
      trippedBy7.suction.state = .tripped ∧
      holds (after (exec (.clear (rq .handle) 7) trippedBy7) trippedBy7) .tripSuction = false ∧
      judged faultedBy0 (.clear (rq .dock) 0) = true ∧ Settled faultedBy0 ∧ effTier faultedBy0 (rq .dock) ≤ clearTier 0 ∧
      (entryAt faultedBy0 0).latched = true ∧ (entryAt faultedBy0 0).present = false ∧
      holds faultedBy0 .stopCharge = true ∧ faultedBy0.charge.stage = .faulted ∧
      holds (after (exec (.clear (rq .dock) 0) faultedBy0) faultedBy0) .stopCharge = false ∧
      judged railOff (.clear (rq .head) 9) = true ∧ Settled railOff ∧ effTier railOff (rq .head) ≤ clearTier 9 ∧
      headPwr railOff = false ∧ headPwr (after (exec (.clear (rq .head) 9) railOff) railOff) = true := by
  decide +kernel

theorem witness_StoreProgramsAndUnlock :
    judged inDock (.writeStore (rq .dock) 40 2 (leBytes 2 65535)) = true ∧
      judged inDock (.unlock (rq .dock)) = true ∧ Settled inDock ∧ effTier inDock (rq .dock) ≤ 0 ∧ inDock.store.locked = true ∧
      22 < 40 ∧ storeBusy inDock = false ∧ judged programming (.writeStore (rq .dock) 1 6 (calBytes ⟨1, -65536⟩)) = true ∧
      Settled programming ∧
      storeBusy programming = true ∧ programming.store.program = some ⟨37, leBytes 2 250, 30000⟩ ∧ isTag 37 = true ∧
      TagLength 37 (leBytes 2 250).length ∧ programming.store.slots.length = 40 ∧
      programming.store.queue = 40 :: [] := by
  rw [← lengthFits_iff]; decide +kernel

/-- A factory pair at the ends of its ranges and F at the end of its field are taken; a length, a pair and a hold time that fail. -/
theorem witness_StoreProgramsAndUnlock_values :
    TagLength 1 (calBytes ⟨1, -65536⟩).length ∧ SlotContent inDock 1 (calBytes ⟨1, -65536⟩) ∧
      TagLength 40 (leBytes 2 65535).length ∧ SlotContent inDock 40 (leBytes 2 65535) ∧
      ¬TagLength 40 (leBytes 3 65535).length ∧ ¬SlotContent inDock 1 (calBytes ⟨0, 0⟩) ∧
      ¬SlotContent inDock 37 (leBytes 2 1001) := by
  simp only [← lengthFits_iff]
  refine ⟨by decide, ⟨fun _ => by unfold PairGood; decide +kernel, ?_, ?_⟩, by decide, ⟨?_, ?_, ?_⟩, by decide, ?_, ?_⟩
  · simp [numberRanges]
  · simp
  · simp
  · simp [numberRanges]
  · simp
  · exact fun h => absurd (h.1 (by decide)) (by unfold PairGood; decide +kernel)
  · exact fun h => absurd (h.2.1 50 1000 (by decide)) (by decide +kernel)

theorem witness_ModeAndBoost :
    judged awake (.mode (rq .handle) 7) = true ∧ judged awake (.boost (rq .handle) 21) = true ∧ Settled awake ∧
      gateOpen awake 0 (rq .handle) 7 = true ∧ 7 ≤ 7 ∧
      (profileAt awake 3).present = true ∧ (profileAt awake 7).present = false ∧ judged running (.boost (rq .handle) 0) = true ∧
      Settled running ∧ gateOpen running 2 (rq .handle) 20 = true ∧ gateOpen awake 2 (rq .handle) 1 = true ∧
      running.suction.demand = some ⟨.handle, 250000, none⟩ ∧ awake.suction.demand = none ∧
      (gateAt running 2).bound = some ⟨1, 20, .clamp⟩ ∧ (gateAt awake 2).bound = some ⟨1, 20, .clamp⟩ ∧ (0 < 1 ∧ 20 < 21) := by
  decide +kernel

/-- At rest, with the spinning motor of an earlier run. -/
def spinning : State :=
  (awake.setSuction { awake.suction with state := .coast, speed := 30000, coastAt := some 3000000 }).setPower
    { awake.power with restSince := none }

theorem witness_PressesCreateDemands :
    judged awake (.trigger (rq .handle) 1) = true ∧ Settled awake ∧ gateOpen awake 1 (rq .handle) 1 = true ∧
      awake.suction.demand = none ∧ awake.suction.state = .off ∧ (activeProfile awake).present = true ∧
      awake.power.mode = .active ∧ awake.budget.record.short = false ∧ judged spinning (.trigger (rq .handle) 1) = true ∧
      Settled spinning ∧ spinning.suction.state = .coast ∧ 30000 ≤ spinning.suction.speed ∧
      judged standby (.trigger (rq .handle) 1) = true ∧ Settled standby ∧ standby.suction.demand = none ∧
      gateOpen standby 1 (rq .handle) 1 = true ∧ standby.power.mode = .standby ∧ judged inDock (.trigger (rq .handle) 1) = true ∧
      gateOpen inDock 1 (rq .handle) 1 = true ∧ inDock.suction.state = .inhibited := by decide +kernel

/-- A press refused in STANDBY for each of its causes. -/
theorem witness_PressesCreateDemands_standby :
    ∀ x ∈ [.inhibited, .tripped, .off].map fun n =>
        settleRest (standby.setSuction { standby.suction with state := n, activeProfile := 7 }),
      judged x (.trigger (rq .handle) 1) = true ∧ Settled x ∧ gateOpen x 1 (rq .handle) 1 = true ∧ x.suction.demand = none ∧
        x.power.mode = .standby ∧ (activeProfile x).present = false := by decide +kernel

theorem witness_RefreshesAndReleases :
    judged running (.trigger (rq .handle) 1) = true ∧ judged running (.trigger (rq .handle) 0) = true ∧
      judged awake (.trigger (rq .handle) 0) = true ∧ Settled running ∧ gateOpen running 1 (rq .handle) 1 = true ∧
      running.suction.demand = some ⟨.handle, 250000, none⟩ ∧ running.power.mode = .active ∧
      gateOpen running 1 (rq .handle) 0 = true ∧ men running = true ∧ awake.suction.demand = none ∧
      gateOpen awake 1 (rq .handle) 0 = true ∧ gateOpen running 1 (rq .dock) 0 = true ∧ Port.handle ≠ (rq .dock).port ∧
      judged running (.trigger (rq .dock) 0) = true := by decide +kernel

theorem witness_TachMeasuresTheSpeed :
    asleep awake = false ∧ Settled awake ∧ awake.suction.lastPulse = none ∧ asleep running = false ∧ Settled running ∧
      running.suction.lastPulse = some 0 ∧ running.clock + 99 - 0 < 100 ∧ 100 ≤ running.clock + 100 - 0 ∧
      running.clock + 100000 - 0 ≤ 100000 ∧ 100000 < running.clock + 100001 - 0 ∧ running.suction.state = .run ∧
      running.suction.stallAt = none := by decide +kernel

/-- R61, R56: a pulse 150 ms after the last one; the speed was lost at 100 ms, and the stall timer runs from there. -/
theorem test_late_pulse_starts_anew :
    (fun t : State => (t.suction.speed, t.suction.lastPulse, t.suction.stallAt))
      (after (exec (.tachPulse 150000) running) running) = (0, some 150000, some 300000) := by decide +kernel

/-- Spinning up, the timer at its mark. -/
def spinningUp : State :=
  running.setSuction { running.suction with state := .spinUp, speed := 20000, spinUpAt := some 1500000 }

/-- Running at 0 rpm, the stall timer at its mark. -/
def stalling : State := running.setSuction { running.suction with speed := 0, stallAt := some 200000 }

theorem witness_MotorTimersTripSuction :
    Settled spinningUp ∧ spinningUp.suction.spinUpAt = some 1500000 ∧ men spinningUp = true ∧
      spinningUp.faults.entries.length = 18 ∧ (entryAt spinningUp 6).enabled = true ∧
      holds spinningUp .tripSuction = false ∧ Settled stalling ∧ stalling.suction.stallAt = some 200000 ∧
      men stalling = true ∧ stalling.faults.entries.length = 18 ∧ (entryAt stalling 6).enabled = true ∧
      holds stalling .tripSuction = false := by decide +kernel

/-- Running with a boost. -/
def boosted : State :=
  running.setSuction { running.suction with demand := some ⟨.handle, 250000, some 1000000⟩ }

theorem witness_DemandAndCoastDeadlines :
    Settled running ∧ running.suction.demand = some ⟨.handle, 250000, none⟩ ∧ men running = true ∧ Settled boosted ∧
      boosted.suction.demand = some ⟨.handle, 250000, some 1000000⟩ ∧ Settled spinning ∧
      spinning.suction.state = .coast ∧ spinning.suction.coastAt = some 3000000 := by decide +kernel

/-- Stopped from the stop line. -/
def stopped : State :=
  (awake.setSuction { awake.suction with stop := true, state := .inhibited }).setPower { awake.power with restSince := none }

theorem witness_StopLineInhibitsSuction :
    Settled running ∧ running.suction.stop = false ∧ men running = true ∧ Settled evac ∧ evac.suction.stop = false ∧
      evac.bin.evac = .granted ∧ Settled stopped ∧ stopped.suction.stop = true ∧ stopped.suction.state = .inhibited ∧
      docked stopped = false ∧ evacuating stopped = false := by decide +kernel

theorem witness_HeadLinesAttachAndDetach :
    Settled awake ∧ asleep awake = false ∧ awake.head.attached = false ∧ Settled standby ∧ asleep standby = false ∧
      standby.head.attached = false ∧ standby.power.mode = .standby ∧ Settled headed ∧ headed.head.attached = true ∧
      headed.faults.entries.length = 18 := by decide +kernel

/-- Attached only; and with ident read. -/
def attachedHead (ident : Bool) : State := awake.setHead { awake.head with attached := true, identRead := ident }

theorem witness_HeadRequestsAreTaken :
    (∀ c ∈ [.announce (rq .head) 3 0 0, .announce (rq .head) 2 0 0, .announce (rq .handle) 1 0 0, .brushClaim (rq .head) 0,
      .floorReport (rq .head) 0], judged awake c = true) ∧ Settled awake ∧ (rq .head).fits = true ∧ (rq .handle).port ≠ .head ∧ 2 < 3 ∧
      2 ≤ 2 ∧ awake.head.attached = false ∧ judged (attachedHead false) (.announce (rq .head) 2 0 0) = true ∧
      Settled (attachedHead false) ∧ (attachedHead false).head.identRead = false ∧
      judged (attachedHead true) (.announce (rq .head) 2 0 0) = true ∧ Settled (attachedHead true) ∧
      (attachedHead true).head.identRead = true ∧ (attachedHead true).head.announced = false ∧
      (∀ c ∈ [.announce (rq .head) 1 7 0, .announce (rq .head) 2 7 0, .brushClaim (rq .head) 255, .floorReport (rq .head) 3],
        judged headed c = true) ∧ Settled headed ∧ headed.head.announced = true ∧
      headed.head.type = headTypeOf 1 ∧ headed.head.id = some 7 ∧ headed.head.type ≠ headTypeOf 2 ∧
      gateOpen headed 4 (rq .head) 255 = true ∧ headed.head.type.cap < 61 ∧ gateOpen awake 4 (rq .head) 0 = true ∧
      gateOpen headed 5 (rq .head) 3 = true ∧ gateOpen awake 5 (rq .head) 0 = true := by decide +kernel

/-- Gate 4 narrowed to 20..40 under CLAMP. -/
def narrowed : State :=
  headed.setPorts { headed.ports with gates := headed.ports.gates.set 4 ⟨true, 3, some ⟨20, 40, .clamp⟩, some .head⟩ }

/-- The three ways a gate takes an argument: as it stands, clamped up, clamped down. -/
theorem witness_HeadRequestsAreTaken_gates :
    GateTakes headed 4 (rq .head) 255 255 ∧ GateTakes headed 4 (rq .head) 256 255 ∧
      GateTakes narrowed 4 (rq .head) 19 20 ∧ GateTakes narrowed 4 (rq .head) 20 20 ∧
      GateTakes awake 4 (rq .head) 0 0 ∧ GateTakes headed 5 (rq .head) 3 3 ∧ GateTakes awake 5 (rq .head) 0 0 := by
  have h : ∀ b : Bound, ∀ g r s v w, effTier s r ≤ (gateAt s g).tierLimit ∧ (gateAt s g).present = true ∧
      r.fits = true ∧ (gateAt s g).bound = some b ∧ b.lo ≤ b.hi ∧ (b.lo ≤ v ∧ v ≤ b.hi ∧ w = v ∨
        b.policy = .clamp ∧ (v < b.lo ∧ w = b.lo ∨ b.hi < v ∧ w = b.hi)) → GateTakes s g r v w :=
    fun b g r s v w hg => ⟨hg.1, hg.2.1, hg.2.2.1, .inr ⟨b, hg.2.2.2⟩⟩
  exact ⟨h ⟨0, 255, .clamp⟩ _ _ _ _ _ (by decide +kernel), h ⟨0, 255, .clamp⟩ _ _ _ _ _ (by decide +kernel),
    h ⟨20, 40, .clamp⟩ _ _ _ _ _ (by decide +kernel), h ⟨20, 40, .clamp⟩ _ _ _ _ _ (by decide +kernel),
    h ⟨0, 255, .clamp⟩ _ _ _ _ _ (by decide +kernel), h ⟨0, 3, .refuse⟩ _ _ _ _ _ (by decide +kernel),
    h ⟨0, 3, .refuse⟩ _ _ _ _ _ (by decide +kernel)⟩

/-- Running with a strike in its dead time. -/
def struck (coarse : Bool) : State := running.setDirt { running.dirt with strike := some ⟨200, coarse⟩, wclUntil := some 20 }

/-- Running in economy. -/
def frugal : State :=
  running.setDirt { running.dirt with economy := true, window := some ⟨0, defaultSensing, 0, 0, true, true⟩ }

theorem witness_StrikesAreCounted :
    running.dirt.window = some ⟨0, defaultSensing, 6, 0, false, true⟩ ∧ running.dirt.strike = none ∧
      running.dirt.economy = false ∧ frugal.dirt.window = some ⟨0, defaultSensing, 0, 0, true, true⟩ ∧
      frugal.dirt.strike = none ∧ frugal.dirt.economy = true ∧ awake.dirt.window = none ∧
      (struck true).dirt.strike = some ⟨200, true⟩ ∧ (struck false).dirt.strike = some ⟨200, false⟩ ∧
      (struck true).dirt.wclUntil = some 20 := by decide +kernel

/-- Running with a state of charge of a given percentage. -/
def runningAt (p : Nat) (s : State) : State := later (s.setAccount { s.account with qRem := s.account.qFull * p / 100 })

/-- A scan that turns economy on with a window open, one that leaves it on, one that turns it off, and one that ends in SHELF. -/
theorem witness_StrikesAreCounted_scans :
    (runningAt 15 running).scan.inProgress = some 0 ∧ (runningAt 15 running).power.mode ≠ .shelf ∧
      (scan 100 (lowCodes 2711) (runningAt 15 running)).power.mode ≠ .shelf ∧
      (scan 100 (lowCodes 2711) (runningAt 15 running)).suction.state = .run ∧
      (runningAt 15 running).suction.state = .run ∧
      (scan 100 (lowCodes 2711) (runningAt 15 running)).dirt.economy = true ∧
      (scan 100 (lowCodes 2711) (runningAt 16 running)).dirt.economy = false ∧
      (scan 100 (lowCodes 2711) (runningAt 19 frugal)).dirt.economy = true ∧
      (scan 100 (lowCodes 2711) (runningAt 20 frugal)).dirt.economy = false ∧
      (scan 100 quietCodes (runningAt 20 running)).suction.state = .coast ∧
      (scan 100 (allChannels 2200) (dormant.setScan awake.scan)).power.mode = .shelf := by decide +kernel

/-- Running, the window counter just wrapped with a record in the ring. -/
def wrapped : State :=
  running.setDirt { running.dirt with ring := [ringRecord 4294967295], seq := 0, cursors := ⟨.at 5, .oldest, .invalid⟩ }

theorem witness_WindowClosesInOrder :
    Settled running ∧ running.dirt.window = some ⟨0, defaultSensing, 6, 0, false, true⟩ ∧ running.bin.f ≤ 65535 ∧
      fill running < 90 ∧ Settled wrapped ∧ wrapped.dirt.window = some ⟨0, defaultSensing, 6, 0, false, true⟩ ∧
      wrapped.bin.f ≤ 65535 ∧ wrapped.dirt.seq = 0 ∧ wrapped.dirt.ring ≠ [] := by decide +kernel

theorem witness_WindowScores : running.dirt.window = some ⟨0, defaultSensing, 6, 0, false, true⟩ := rfl

/-- Running at level 2, nine closes below the mark. -/
def fallingLevel : State := running.setDirt { running.dirt with level := 2, holdDown := 9 }

theorem witness_LevelFallsByHoldDown :
    fallingLevel.dirt.window = some ⟨0, defaultSensing, 6, 0, false, true⟩ ∧ fallingLevel.dirt.level ≤ 3 ∧
      fallingLevel.dirt.holdDown ≤ 9 ∧ (fallingLevel.dirt.level = 0 → fallingLevel.dirt.holdDown = 0) ∧
      running.dirt.level ≤ 3 ∧ running.dirt.holdDown ≤ 9 ∧ (running.dirt.level = 0 → running.dirt.holdDown = 0) := by
  decide +kernel

/-- In the dock with suction tripped; and with the motor still turning. -/
def trippedDock : State :=
  (inDock.setSuction { inDock.suction with state := .tripped }).setPower { inDock.power with restSince := none }

/-- In the dock with the motor still turning. -/
def turningDock : State :=
  (inDock.setSuction { inDock.suction with speed := 2000 }).setPower { inDock.power with restSince := none }

theorem witness_EvacuationExchanges :
    Settled inDock ∧ judged inDock (.evacRequest (rq .dock)) = true ∧
      judged awake (.evacRequest (rq .dock)) = true ∧ judged turningDock (.evacRequest (rq .dock)) = true ∧
      judged inDock (.evacDone (rq .dock) 0) = true ∧ gateOpen inDock 7 (rq .dock) 0 = true ∧ docked inDock = true ∧
      evacuating inDock = false ∧ inDock.suction.state = .inhibited ∧ motorStopped inDock = true ∧ Settled awake ∧
      gateOpen awake 7 (rq .dock) 0 = true ∧ docked awake = false ∧ Settled evac ∧ judged evac (.evacRequest (rq .dock)) = true ∧
      judged evac (.evacDone (rq .dock) 2) = true ∧
      gateOpen evac 7 (rq .dock) 0 = true ∧ docked evac = true ∧ evacuating evac = true ∧ Settled trippedDock ∧
      judged trippedDock (.evacRequest (rq .dock)) = true ∧ trippedDock.suction.state ≠ .inhibited ∧ Settled turningDock ∧
      turningDock.suction.state = .inhibited ∧ motorStopped turningDock = false ∧
      gateOpen evac 8 (rq .dock) 2 = true ∧ gateOpen inDock 8 (rq .dock) 0 = true ∧ evac.bin.evacAt = some 60000000 ∧
      evac.charge.stage = .hold ∧ evac.charge.linkFlag = false ∧ evac.charge.temp = false ∧ evac.charge.cap = none := by
  decide +kernel

/-- In the dock after a scan at 25 °C and 3600 mV. -/
def warmDock : State :=
  inDock.setScan { inDock.scan with latest := some { setOf 0 10 with tHot := 25, vmin := 3600, vmax := 3600 } }

/-- An exchange in HOLD with the dock's capability held and a scan taken; with the link lost too; and one in FAULTED. -/
def evacHeld : State := (warmDock.setBin evac.bin).setPower evac.power |>.setCharge
  { warmDock.charge with stage := .hold, cap := some ⟨5000, 29400⟩ }
def evacLinkLost : State := evacHeld.setCharge { evacHeld.charge with linkFlag := true }
def evacFaulted : State := evacHeld.setCharge { evacHeld.charge with stage := .faulted }

theorem witness_EvacuationExchanges_ends :
    (∀ s ∈ [evacHeld, evacLinkLost, evacFaulted], Settled s ∧ judged s (.evacDone (rq .dock) 0) = true ∧
      gateOpen s 8 (rq .dock) 0 = true ∧ evacuating s = true ∧ s.bin.evacAt = some 60000000) ∧
      evacHeld.charge.stage = .hold ∧ evacHeld.charge.linkFlag = false ∧ evacHeld.charge.temp = false ∧
      motorStopped evacHeld = true ∧ evacHeld.charge.scanWait = false ∧ evacHeld.scan.latest.isSome = true ∧
      evacHeld.charge.curGrant = 0 ∧ evacHeld.charge.voltGrant = 0 ∧ evacFaulted.charge.stage ≠ .hold ∧
      (after (exec (.evacDone (rq .dock) 0) evacHeld) evacHeld).charge.stage = .cc := by decide +kernel

/-- In the dock after the link's loss. -/
def unsynced : State := inDock.setCharge { inDock.charge with resyncRequired := true, linkFlag := true, stage := .hold }

theorem witness_ChargeRequestsAreTaken :
    judged inDock (.chargeRequest (rq .dock) 8000 32000 false) = true ∧ Settled inDock ∧
      gateOpen inDock 6 (rq .dock) 8000 = true ∧ docked inDock = true ∧
      inDock.charge.resyncRequired = false ∧ inDock.charge.stage = .negotiating ∧ motorStopped inDock = true ∧
      inDock.charge.scanWait = false ∧ evacuating inDock = false ∧
      judged scanned (.chargeRequest (rq .dock) 8001 32001 false) = true ∧ Settled scanned ∧
      scanned.scan.latest = some (setOf 0 10) ∧ judged awake (.chargeRequest (rq .dock) 0 0 false) = true ∧
      gateOpen awake 6 (rq .dock) 0 = true ∧ docked awake = false ∧ judged unsynced (.chargeRequest (rq .dock) 8001 0 false) = true ∧
      judged unsynced (.chargeRequest (rq .dock) 8000 0 true) = true ∧
      Settled unsynced ∧ gateOpen unsynced 6 (rq .dock) 8000 = true ∧ docked unsynced = true ∧
      unsynced.charge.resyncRequired = true ∧ motorStopped turningDock = false ∧
      turningDock.charge.stage = .negotiating := by decide +kernel

/-- In HOLD for LINK alone after a scan, with no resync required: a request ends the hold. -/
def linkLost : State := warmDock.setCharge { warmDock.charge with stage := .hold, linkFlag := true }

/-- In HOLD for EVAC with a resync required: the resync judges TEMP there. -/
def evacUnsynced : State := evacLinkLost.setCharge { evacLinkLost.charge with resyncRequired := true, temp := true }

theorem witness_ChargeRequestsAreTaken_holds :
    judged linkLost (.chargeRequest (rq .dock) 8000 29400 false) = true ∧ Settled linkLost ∧
      gateOpen linkLost 6 (rq .dock) 8000 = true ∧
      linkLost.charge.stage = .hold ∧ linkLost.charge.resyncRequired = false ∧
      linkLost.scan.latest.isSome = true ∧ judged evacUnsynced (.chargeRequest (rq .dock) 8000 29400 true) = true ∧
      Settled evacUnsynced ∧
      gateOpen evacUnsynced 6 (rq .dock) 8000 = true ∧ evacUnsynced.charge.resyncRequired = true ∧
      evacUnsynced.scan.latest.isSome = true ∧ evacuating evacUnsynced = true ∧
      (after (exec (.chargeRequest (rq .dock) 8000 29400 false) linkLost) linkLost).charge.stage = .cc ∧
      (after (exec (.chargeRequest (rq .dock) 8000 29400 true) evacUnsynced) evacUnsynced).charge.temp = false := by
  decide +kernel

/-- Gate 6 takes 8000 as it stands, clamps 8001 to it, and takes 0. -/
theorem witness_ChargeRequestsAreTaken_gates :
    GateTakes inDock 6 (rq .dock) 8000 8000 ∧ GateTakes scanned 6 (rq .dock) 8001 8000 ∧
      GateTakes unsynced 6 (rq .dock) 8001 8000 ∧ GateTakes awake 6 (rq .dock) 0 0 := by
  have h : ∀ s v w, effTier s (rq .dock) ≤ (gateAt s 6).tierLimit ∧ (gateAt s 6).present = true ∧
      (gateAt s 6).bound = some ⟨0, 8000, .clamp⟩ ∧ (v ≤ 8000 ∧ w = v ∨ 8000 < v ∧ w = 8000) →
      GateTakes s 6 (rq .dock) v w := fun s v w hg =>
    ⟨hg.1, hg.2.1, rfl, .inr ⟨_, hg.2.2.1, by decide, hg.2.2.2.elim (fun a => .inl ⟨by simp, a⟩)
      (fun a => .inr ⟨rfl, .inr a⟩)⟩⟩
  exact ⟨h _ _ _ (by decide +kernel), h _ _ _ (by decide +kernel), h _ _ _ (by decide +kernel),
    h _ _ _ (by decide +kernel)⟩

/-- A charge stage with the charge hold at its mark. -/
def holding (n : ChargeStage) : State := charging.setCharge { charging.charge with stage := n }

theorem witness_ChargeHoldExpires :
    Settled charging ∧ charging.charge.holdAt = some 1000000 ∧ charging.charge.stage.filling = true ∧
      charging.faults.entries.length = 18 ∧ (entryAt charging 11).enabled = true ∧
      (entryAt charging 11).latched = false ∧ Settled (holding .topped) ∧ (holding .topped).charge.stage = .topped ∧
      (holding .topped).charge.holdAt = some 1000000 ∧ Settled (holding .hold) ∧
      (holding .hold).charge.holdAt = some 1000000 ∧ Settled (holding .faulted) ∧
      (holding .faulted).charge.holdAt = some 1000000 := by decide +kernel

/-- Docked, the first scan over, at a stage with the termination run, the timers and the scan wait given. -/
def atStage (n : ChargeStage) (run pre total : Nat) (wait : Bool) : State :=
  (later charging).setCharge { charging.charge with
    stage := n, termRun := run, preMs := pre, totalMs := total, scanWait := wait }

/-- A stage's scan in which no STOP_CHARGE holds after, and the stage it leaves. -/
def scanOf (cell : Nat) (s : State) : Bool × ChargeStage :=
  (holds (scan 10000 (warmCodes cell) s) .stopCharge, (scan 10000 (warmCodes cell) s).charge.stage)

/-- In CC with the CELL_OV filter run out, so that a scan above 4250 mV latches it. -/
def overVoltage : State :=
  (atStage .cc 0 0 5000 false).setFaults { awake.faults with
    entries := awake.faults.entries.set 0 { clearEntry with acc := some 50 } }

/-- R137, R138: the scan that faults a charge gives its time to the stage it found. -/
theorem witness_ChargeHoldExpires_stopped :
    holds overVoltage .stopCharge = false ∧ overVoltage.charge.stage ≠ .faulted ∧ docked overVoltage = true ∧
      overVoltage.scan.inProgress.isSome = true ∧
      holds (scan 10000 (warmCodes 3530) overVoltage) .stopCharge = true ∧
      (scan 10000 (warmCodes 3530) overVoltage).charge.stageMs = 0 ∧
      overVoltage.charge.totalMs < (scan 10000 (warmCodes 3530) overVoltage).charge.totalMs := by decide +kernel

/-- Every transition of a scan while docked. -/
theorem witness_ChargeHoldExpires_scans :
    (atStage .cc 0 0 0 false).scan.inProgress = some 0 ∧ docked (atStage .cc 0 0 0 false) = true ∧
      scanOf 2700 (atStage .cc 0 0 0 false) = (false, .cc) ∧ scanOf 3430 (atStage .cc 0 0 0 false) = (false, .cv) ∧
      scanOf 3430 (atStage .cv 29990 0 0 false) = (false, .topped) ∧
      scanOf 3430 (atStage .cv 29980 0 0 false) = (false, .cv) ∧
      scanOf 2700 (atStage .topped 0 0 0 false) = (false, .cc) ∧
      scanOf 2500 (atStage .precharge 0 0 0 false) = (false, .precharge) ∧
      scanOf 2600 (atStage .precharge 0 0 0 false) = (false, .cc) ∧
      scanOf 2700 (atStage .negotiating 0 0 0 true) = (false, .cc) ∧
      scanOf 2440 (atStage .hold 0 0 0 true) = (false, .precharge) ∧
      scanOf 2700 (atStage .faulted 0 0 0 true) = (false, .faulted) := by decide +kernel

/-- The scan that enters TOPPED with the rest timer at 60 s, and one below it. -/
theorem witness_ChargeHoldExpires_rest :
    Settled (atStage .cv 29990 0 0 false) ∧ (atStage .cv 29990 0 0 false).power.restSince = some 0 ∧
      (atStage .cv 29990 0 0 false).power.mode = .active ∧
      [10000, 60000000].map (fun w => (fun t : State => (t.charge.stage, t.suction.state, t.power.mode))
          (scan w (warmCodes 3430) (atStage .cv 29990 0 0 false))) =
        [(.topped, .inhibited, .active), (.topped, .inhibited, .standby)] := by decide +kernel

/-- A timer at its limit minus this scan's time, its channel enabled, no STOP_CHARGE before, and no other after. -/
theorem witness_ChargeHoldExpires_timers :
    1800000 ≤ min 65535999 (1799990 + (measure ((atStage .precharge 0 1799990 0 false).setClock 10000) (warmCodes 2500)).elapsed) ∧
      18000000 ≤ min 65535999 (17999990 + (measure ((atStage .cc 0 0 17999990 false).setClock 10000) (warmCodes 2700)).elapsed) ∧
      (entryAt (atStage .precharge 0 1799990 0 false) 13).enabled = true ∧
      holds (atStage .precharge 0 1799990 0 false) .stopCharge = false ∧
      (entryAt (atStage .cc 0 0 17999990 false) 14).enabled = true ∧
      holds (atStage .cc 0 0 17999990 false) .stopCharge = false ∧
      ((scan 10000 (warmCodes 2500) (atStage .precharge 0 1799990 0 false)).faults.entries.zipIdx.all fun (e, k) =>
        k == 13 || k == 14 || !e.latched || !(carries k e.wide).contains .stopCharge) = true ∧
      ((scan 10000 (warmCodes 2700) (atStage .cc 0 0 17999990 false)).faults.entries.zipIdx.all fun (e, k) =>
        k == 13 || k == 14 || !e.latched || !(carries k e.wide).contains .stopCharge) = true := by decide +kernel

/-- In the dock, asleep. -/
def dockedDormant : State := inDock.setPower { inDock.power with mode := .dormant }

theorem witness_DockAndWakeLines :
    Settled running ∧ running.charge.stage = .undocked ∧ men running = true ∧ running.power.mode = .active ∧
      Settled dormant ∧ dormant.charge.stage = .undocked ∧ dormant.power.mode = .dormant ∧
      true ≠ dormant.power.headSample ∧ Settled evac ∧ docked evac = true ∧ asleep evac = false ∧
      evacuating evac = true ∧ Settled shelved ∧ shelved.power.mode = .shelf ∧ asleep running = false ∧
      Settled dockedDormant ∧ docked dockedDormant = true ∧ asleep dockedDormant = true := by decide +kernel

/-- An undock with the rest timer at 60 s, and one just below it. -/
theorem witness_DockAndWakeLines_rest :
    [59999999, 60000000].map (fun n => (fun s : State =>
        (decide (Settled s), docked s, s.power.mode, s.power.restSince, (after (exec .undock s) s).power.mode))
          (inDock.setClock n)) =
      [(true, true, .active, some 0, .active), (true, true, .active, some 0, .standby)] := by decide +kernel

/-- A deferred sleep at its mark. -/
def sleepy (s : State) : State := s.setPower { s.power with sleepDue := some 10000 }

theorem witness_PowerTimersAndSleep :
    Settled State.reset ∧ State.reset.power.settlingUntil = some 100000 ∧ Settled awake ∧
      awake.power.restSince = some 0 ∧ awake.power.mode = .active ∧ awake.charge.stage = .undocked ∧ Settled standby ∧
      standby.power.dwellSince = some 0 ∧ standby.power.mode = .standby ∧ docked standby = false ∧
      Settled (sleepy awake) ∧ (sleepy awake).power.sleepDue = some 10000 ∧ asleep (sleepy awake) = false ∧
      atRest (sleepy awake) = true ∧ (sleepy awake).charge.stage.filling = false ∧ Settled (sleepy running) ∧
      atRest (sleepy running) = false ∧ asleep (sleepy running) = false ∧ judged awake (.sleep (rq .handle)) = true ∧
      gateOpen awake 3 (rq .handle) 0 = true ∧ atRest awake = true ∧ awake.power.sleepDue = none ∧
      judged (sleepy awake) (.sleep (rq .handle)) = true ∧ judged running (.sleep (rq .handle)) = true ∧
      gateOpen running 3 (rq .handle) 0 = true ∧ atRest running = false ∧ Settled charging ∧
      judged charging (.sleep (rq .handle)) = true ∧ gateOpen charging 3 (rq .handle) 0 = true ∧ atRest charging = true ∧
      charging.charge.stage.filling = true := by decide +kernel

/-- The shelf test counting, 990 ms of it behind. -/
def nearShelf : State := later (awake.setPower { awake.power with shelfCount := some 990 })

/-- Raw codes of cells at 2686 mV. -/
def deadCodes : PerChannel Nat := { allChannels 2200 with packI := 2048 }

/-- The shelf test: what fails it, what it counts, and the two ways it qualifies. -/
theorem witness_PowerTimersAndSleep_shelf :
    Settled nearShelf ∧ nearShelf.scan.inProgress = some 0 ∧ nearShelf.power.mode ≠ .shelf ∧
      docked nearShelf = false ∧ 2800 ≤ (measure (nearShelf.setClock 10000) quietCodes).vmin ∧
      (measure (nearShelf.setClock 10000) deadCodes).vmin < 2800 ∧
      anyCell (measure (nearShelf.setClock 10000) deadCodes).suspect = false ∧
      (measure (nearShelf.setClock 9999) deadCodes).elapsed = 9 ∧ 990 + 9 < 1000 ∧
      (measure (nearShelf.setClock 10000) deadCodes).elapsed = 10 ∧ 1000 ≤ min 65535 (990 + 10) ∧
      Settled (dormant.setScan awake.scan) ∧ (dormant.setScan awake.scan).power.mode = .dormant ∧
      (dormant.setScan awake.scan).scan.inProgress = some 0 ∧ docked (dormant.setScan awake.scan) = false ∧
      docked inDock = true ∧ inDock.scan.inProgress = some 0 := by decide +kernel

/-- No scan in progress. -/
def betweenScans : State := awake.setScan { awake.scan with inProgress := none }

theorem witness_ScansMeasureEveryChannel :
    betweenScans.scan.nextStart = some 10000 ∧ betweenScans.scan.inProgress = none ∧ awake.scan.inProgress = some 0 := by
  decide +kernel

/-- Cell 1 with a run of suspect scans, a run of clean ones and its place in the sensing-fault list. -/
def sensed (bad clean : Nat) (fault : Bool) : State :=
  awake.setScan { awake.scan with
    suspectRun := { allChannels 0 with cell1 := bad }, cleanRun := { allChannels 0 with cell1 := clean },
    sensing := { allChannels false with cell1 := fault } }

theorem witness_ScansJudgeTheFaultTable :
    awake.scan.inProgress = some 0 ∧ awake.faults.entries.length = 18 ∧ (sensed 2 0 false).scan.inProgress = some 0 ∧
      -- the third suspect scan in a row, and the third clean one
      (chanList (measure (sensed 2 0 false) { quietCodes with cell1 := 4095 }).suspect)[0]? = some true ∧
      (chanList (sensed 2 0 false).scan.suspectRun)[0]? = some 2 ∧
      (chanList (scan 100 { quietCodes with cell1 := 4095 } (sensed 2 0 false)).scan.sensing)[0]? = some true ∧
      (entryAt (scan 100 { quietCodes with cell1 := 4095 } (sensed 2 0 false)) 16).wide = true ∧
      (chanList (measure (sensed 3 2 true) quietCodes).suspect)[0]? = some false ∧
      (chanList (sensed 3 2 true).scan.cleanRun)[0]? = some 2 ∧
      (chanList (scan 100 quietCodes (sensed 3 2 true)).scan.sensing)[0]? = some false ∧
      -- a latched entry whose condition holds on
      (latchedAt 5 true awake).faults.entries.length = 18 ∧ (entryAt (latchedAt 5 true awake) 5).enabled = true := by
  decide +kernel

theorem witness_FaultFilterCounts :
    clearEntry.enabled = true ∧ clearEntry.latched = false ∧ clearEntry.acc = none ∧ 50 ≤ 65535 ∧
      5 * 10 ≤ 50 ∧ 50 ≤ 5 * 10 ∧ 4 * 10 < 50 ∧ (disable clearEntry).enabled = false ∧
      (entryAt (latchedAt 0 true awake) 0).latched = true ∧ (entryAt (latchedAt 0 true awake) 0).present = true ∧
      (entryAt (latchedAt 0 true awake) 0).enabled = true ∧ (entryAt (latchedAt 0 false awake) 0).latched = true ∧
      (entryAt (latchedAt 0 false awake) 0).present = false := by decide +kernel

/-- After the first scan, with four empty scans in a row and another in progress. -/
def fourEmpty : State :=
  (awake.setScan { awake.scan with firstScan := false }).setAccount { awake.account with emptyRun := 4, qRem := 40 }

/-- Raw codes of empty cells under load: 2949 mV, and 19,534 mA out of the pack. -/
def emptyCodes : PerChannel Nat := { allChannels 2416 with packI := 3048 }

/-- The set of raw codes. -/
def setAfter (raw : PerChannel Nat) (s : State) : MeasurementSet := measure (s.setClock (s.clock + 100)) raw

/-- The first scan after SHELF. -/
def afterShelf : State := awake.setScan { awake.scan with firstScan := false, afterShelf := true }

theorem witness_AccountCountsEachScan :
    awake.scan.inProgress = some 0 ∧ (scan 100 quietCodes awake).charge.stage ≠ .topped ∧ awake.account.emptyRun < 4 ∧
      awake.scan.firstScan = true ∧ fourEmpty.scan.inProgress = some 0 ∧
      (scan 100 emptyCodes fourEmpty).charge.stage ≠ .topped ∧
      fourEmpty.account.emptyRun = 4 ∧ fourEmpty.scan.firstScan = false ∧ fourEmpty.scan.afterShelf = false ∧
      (setAfter emptyCodes fourEmpty).vmin ≤ fourEmpty.budget.vFloor ∧
      1000 ≤ (setAfter emptyCodes fourEmpty).value.packI ∧ anyCell (setAfter emptyCodes fourEmpty).suspect = false ∧
      (setAfter emptyCodes fourEmpty).suspect.packI = false ∧
      ¬((setAfter quietCodes fourEmpty).vmin ≤ fourEmpty.budget.vFloor ∧
        1000 ≤ (setAfter quietCodes fourEmpty).value.packI) ∧
      (setAfter quietCodes fourEmpty).suspect.packI = false ∧
      (setAfter { quietCodes with packI := 4095 } fourEmpty).suspect.packI = true ∧
      fourEmpty.account.qRem ≤ fourEmpty.account.qFull := by decide +kernel

/-- A learn run under way, with counts of its own. -/
def learning (cancel empty : Nat) : State :=
  later (awake.setAccount { awake.account with
    learnActive := true, learnTotal := 1600, chargeCancel := cancel, emptyRun := empty })

/-- The law holds, and a scan cancels the run or goes on with it. -/
theorem witness_AccountCountsEachScan_runs :
    AccountLaw awake ∧ AccountLaw fourEmpty ∧ AccountLaw (learning 990 0) ∧ (learning 990 0).scan.inProgress = some 0 ∧
      (scan 9999 { quietCodes with packI := 2000 } (learning 990 0)).charge.stage ≠ .topped ∧ (learning 990 0).charge.stage ≠ .topped ∧
      100 < -(measure ((learning 990 0).setClock 10000) { quietCodes with packI := 2000 }).value.packI ∧
      1000 ≤ 990 + (measure ((learning 990 0).setClock 10000) { quietCodes with packI := 2000 }).elapsed ∧
      990 + (measure ((learning 990 0).setClock 9999) { quietCodes with packI := 2000 }).elapsed < 1000 := by decide +kernel

/-- An empty sync that learns, the first scan after SHELF, and the full sync. -/
theorem witness_AccountCountsEachScan_syncs :
    AccountLaw (learning 0 4) ∧ (learning 0 4).account.emptyRun = 4 ∧ (learning 0 4).account.learnActive = true ∧
      AccountLaw afterShelf ∧ afterShelf.scan.firstScan = false ∧ afterShelf.scan.afterShelf = true ∧
      AccountLaw (atStage .cv 29980 0 0 false) ∧
      (scan 10000 (warmCodes 3430) (atStage .cv 29980 0 0 false)).charge.stage ≠ .topped ∧
      AccountLaw (atStage .cv 29990 0 0 false) ∧ (atStage .cv 29990 0 0 false).charge.stage ≠ .topped ∧
      (scan 10000 (warmCodes 3430) (atStage .cv 29990 0 0 false)).charge.stage = .topped := by decide +kernel

theorem witness_LookupsInterpolate :
    defaultDis ≠ [] ∧ (defaultDis.zip defaultDis.tail).all (fun q => decide (q.1.x < q.2.x)) = true ∧
      defaultDis.head? = some ⟨-20, 40⟩ ∧ (-21 : Int) < -20 ∧ defaultDis.getLast? = some ⟨60, 0⟩ ∧ (60 : Int) < 61 ∧
      (⟨45, 100⟩ : Point) ∈ defaultDis ∧ ((⟨45, 100⟩, ⟨55, 65⟩) : Point × Point) ∈ defaultDis.zip defaultDis.tail ∧
      (45 : Int) < 46 ∧ (54 : Int) < 55 ∧ (∀ a ∈ defaultDis, a.p ≤ 100) := by decide +kernel

/-- The state after the worked example's scan. -/
def exampleAfter : State := after (exec (.scanComplete 100 exampleCodes) exampleBefore) exampleBefore

/-- The active profile absent. -/
def profileless : State := awake.setSuction { awake.suction with activeProfile := 7 }

theorem witness_BudgetFollowsTheScan :
    exec (.scanComplete 100 exampleCodes) exampleBefore = .next exampleAfter ∧ exampleBefore.power.mode = .active ∧
      exampleBefore.scan.inProgress = some 0 ∧ exampleAfter.power.mode = .active ∧
      exampleAfter.scan.latest.isSome = true ∧ SuctionLaw exampleBefore ∧ (activeProfile exampleBefore).present = true ∧
      exampleAfter.budget.record.demand = true ∧ exampleAfter.budget.record.short = false ∧ men exampleAfter = true ∧
      exampleBefore.suction.pSet < exampleAfter.budget.record.s := by
  exact ⟨rfl, by decide +kernel⟩

/-- The other cases of an evaluation: limited anew, short, no demand, a profile absent, and a STANDBY scan. -/
theorem witness_BudgetFollowsTheScan_cases :
    SuctionLaw running ∧ (scan 100 (lowCodes 2500) running).budget.record.limited = true ∧
      running.budget.record.limited = false ∧ (scan 100 (lowCodes 2500) running).budget.record.short = false ∧
      (scan 100 (lowCodes 2500) running).power.mode = .active ∧
      (scan 100 (lowCodes 2462) running).budget.record.short = true ∧
      (scan 100 (lowCodes 2462) running).budget.record.demand = true ∧ SuctionLaw awake ∧
      awake.scan.inProgress = some 0 ∧ (scan 100 quietCodes awake).power.mode = .active ∧
      (scan 100 quietCodes awake).budget.record.demand = false ∧ SuctionLaw profileless ∧
      (activeProfile profileless).present = false ∧ (scan 100 quietCodes profileless).power.mode = .active ∧
      standby.power.mode = .standby ∧ standby.scan.inProgress = some 0 ∧
      (scan 100 quietCodes standby).power.mode = .standby ∧ (activeProfile standby).present = true ∧
      (scan 100 quietCodes standby).charge.stage ≠ .topped := by decide +kernel

/-- A running state with a command that will do something at its front. -/
def runningQueue : State := running.setPending [.windowClose]

/-- A charging state with a command at its front. -/
def chargingQueue : State :=
  (charging.setScan { charging.scan with latest := some { setOf 0 10 with tHot := 25 } }).setPending [.undock]

/-- Both step on. -/
theorem witness_steps :
    step runningQueue = .next (after (step runningQueue) runningQueue) ∧
      step chargingQueue = .next (after (step chargingQueue) chargingQueue) := ⟨rfl, rfl⟩

theorem witness_SuctionAndChargeLawsAreKept :
    SuctionLaw runningQueue ∧ ChargeLaw runningQueue ∧ SuctionLaw chargingQueue ∧ ChargeLaw chargingQueue := by
  decide +kernel

theorem witness_BudgetAndSetpointLawsAreKept : BudgetLaw runningQueue ∧ SetpointLaw runningQueue := by decide +kernel

theorem witness_DirtAndRingLawsAreKept : DirtLaw runningQueue ∧ RingLaw runningQueue ∧ RingLaw ringed := by decide +kernel

theorem witness_AccountAndTableLawsAreKept : AccountLaw runningQueue ∧ TablesLaw runningQueue := by decide +kernel

theorem witness_StoreBinAndPortLawsAreKept :
    BinLaw runningQueue ∧ StoreLaw runningQueue ∧ PortsLaw runningQueue ∧ EventsLaw runningQueue ∧ BinLaw evac ∧
      -- with a request held in process
      BinLaw received ∧ StoreLaw received ∧ PortsLaw received ∧ EventsLaw received := by
  decide +kernel

theorem witness_PowerAndHeadLawsAreKept : PowerLaw runningQueue ∧ Settled runningQueue ∧ SuctionLaw runningQueue := by
  exact ⟨⟨fun h => absurd h (by decide +kernel), by decide +kernel, by decide +kernel⟩, by decide +kernel⟩

theorem witness_OnlyNamedCommandsChange :
    exec .windowClose running = .next (after (exec .windowClose running) running) ∧ unlatches .windowClose = false ∧
      lowersFill .windowClose = false ∧ resets .windowClose = false ∧ running.bin.f ≤ 65535 ∧
      (entryAt (latchedAt 17 true running) 17).latched = true := by
  exact ⟨rfl, by decide +kernel⟩

theorem witness_ResetMeetsEveryLaw : RailReading.low ≠ .high ∧ RailReading.neither ≠ .high := by decide

end Sys2Proof.Tests
end

section
/-! PROOFS. The close of a window (05): what it leaves in the dirt counter, the score of its record (R89), and the fall of the
level by the hold-down count (R94). -/

namespace Sys2Proof.Machine

/-! ### What a close leaves in the dirt counter -/

/-- The credit, the event and the settling that follow leave the dirt counter alone; the next window opens in it (R87). -/
theorem closeWindow_dirt (w : Window) (s : State) :
    (closeWindow w s).dirt =
      { closedDirt s w with window := some ⟨s.clock, s.dirt.params, 0, 0, s.dirt.economy, false⟩ } := by
  simp [closeWindow, openWindow, closedDirt]

/-- A close with a window open, at the window's end or later. -/
theorem exec_windowClose {w : Window} {s : State} (h : s.dirt.window = some w) :
    exec .windowClose s = .next (settle s (closeWindow w (reach (w.openedAt + ms w.params.length) s))) := by
  change execWindowClose s = _
  simp [execWindowClose, h]

/-! ### The score (R89) and its record (R90) -/

theorem rawValue_le (w : Window) : rawValue w ≤ 65535 := Nat.min_le_left ..

/-- With the raw value saturated and the divisor at least 50 W, the score is at most 65,535 × 4. -/
theorem scoreOf_le {raw : Nat} (h : raw ≤ 65535) (grant : Nat) : scoreOf raw grant ≤ 262140 := by
  have hm : 50 ≤ if 50 ≤ grant then grant else 50 := by split <;> omega
  calc scoreOf raw grant ≤ raw * 200 / 50 := Nat.div_le_div_left hm (by decide)
    _ ≤ 262140 := by omega

/-- At 200 W the score is the raw value. -/
theorem scoreOf_200 (raw : Nat) : scoreOf raw 200 = raw := Nat.mul_div_cancel raw (by decide)

/-- A worked value of R89: below 200 W the score is scaled up. -/
theorem scoreOf_60_120 : scoreOf 60 120 = 100 := rfl

/-- A worked value of R89: above 200 W the score is scaled down. -/
theorem scoreOf_60_300 : scoreOf 60 300 = 40 := rfl

/-- Whichever way the ring makes room, the record of the close is its newest. -/
theorem ringNext_getLast? (ring : List WindowRecord) (x : WindowRecord) : (ringNext ring x).getLast? = some x := by
  unfold ringNext
  split
  · rfl
  · split
    next hlen =>
      have hne : ring ≠ [] := by
        rintro rfl
        simp at hlen
      rw [List.tail_append_of_ne_nil hne, List.getLast?_concat]
    next => exact List.getLast?_concat

/-- Settles O40: the newest record of the ring after the close is the one `recordOf` makes. -/
theorem windowScores : Obligations.WindowScores := by
  intro w s hw
  let s' := reach (w.openedAt + ms w.params.length) s
  let x := recordOf s' w (closedDirt s' w).level
  have hring : (settle s (closeWindow w s')).dirt.ring = ringNext s.dirt.ring x := by
    rw [settle_dirt, closeWindow_dirt]
    rfl
  have hlast : (settle s (closeWindow w s')).dirt.ring.getLast? = some x := by rw [hring, ringNext_getLast?]
  have hscore : x.score = scoreOf (rawValue w) s.budget.record.s := rfl
  refine ⟨_, x, rawValue w, exec_windowClose hw, hlast, rfl, rfl, rfl, scoreOf_le (rawValue_le w) _,
    fun hr hS => ?_, fun hr hS => ?_, fun hr hS => ?_, fun hS => ?_⟩
  · rw [hscore, hr, hS, scoreOf_60_120]
  · rw [hscore, hr, hS, scoreOf_200]
  · rw [hscore, hr, hS, scoreOf_60_300]
  · rw [hscore, hS, scoreOf_200]

/-! ### The level and the hold-down count (R93, R94) -/

/-- The level and the count after a close are those of R93 and R94 at the new sum of scores. -/
theorem closedDirt_levelNext (s : State) (w : Window) :
    levelNext (effective s.dirt.levels s.head.floor) (closedDirt s w).scoreSum s.dirt.level s.dirt.holdDown =
      ((closedDirt s w).level, (closedDirt s w).holdDown) := rfl

section
variable {e : Nat × Nat × Nat} {sum level holdDown level' holdDown' : Nat}

/-- Where the level does not rise, the sum reaches no higher level (R93). -/
theorem not_lt_reachedLevel (hn : levelNext e sum level holdDown = (level', holdDown')) (hl : ¬level < level') :
    ¬level < reachedLevel e sum := by
  intro hr
  rw [levelNext, if_pos hr, Prod.mk.injEq] at hn
  exact hl (hn.1 ▸ hr)

/-- A level that stays 0 keeps its count. -/
theorem levelNext_stays_zero (hn : levelNext e sum level holdDown = (level', holdDown')) (h0 : level = 0)
    (hl : level' = 0) : holdDown' = holdDown := by
  have hr := not_lt_reachedLevel hn (by omega)
  rw [levelNext, if_neg hr, if_pos h0, Prod.mk.injEq] at hn
  exact hn.2.symm

/-- Below the mark the count goes up, until its tenth close lowers the level. -/
theorem levelNext_below (hr : ¬level < reachedLevel e sum) (h0 : 0 < level) (hs : sum < levelMark e level) :
    levelNext e sum level holdDown = if 10 ≤ holdDown + 1 then (level - 1, 0) else (level, holdDown + 1) := by
  rw [levelNext, if_neg hr, if_neg h0.ne', if_pos hs]

/-- At or above the mark the count starts again. -/
theorem levelNext_above (hr : ¬level < reachedLevel e sum) (h0 : 0 < level) (hs : levelMark e level ≤ sum) :
    levelNext e sum level holdDown = (level, 0) := by
  rw [levelNext, if_neg hr, if_neg h0.ne', if_neg (Nat.not_lt.2 hs)]

/-- A count within its range stays in it: the close that would make it 10 lowers the level and clears it. -/
theorem levelNext_holdDown_le (h : holdDown ≤ 9) : (levelNext e sum level holdDown).2 ≤ 9 := by
  unfold levelNext
  split_ifs <;> simp only <;> omega

/-- The fall of a level above 0 that does not rise, by the sum's side of the mark and the count's side of 10. -/
theorem levelNext_falls (hn : levelNext e sum level holdDown = (level', holdDown')) (hl : ¬level < level')
    (h0 : 0 < level) :
    (sum < levelMark e level → holdDown + 1 < 10 → level' = level ∧ holdDown' = holdDown + 1) ∧
      (sum < levelMark e level → holdDown + 1 = 10 → level' = level - 1 ∧ holdDown' = 0) ∧
      (levelMark e level ≤ sum → level' = level ∧ holdDown' = 0) := by
  have hr := not_lt_reachedLevel hn hl
  refine ⟨fun hs hc => ?_, fun hs hc => ?_, fun hs => ?_⟩
  · rw [levelNext_below hr h0 hs, if_neg (Nat.not_le.2 hc), Prod.mk.injEq] at hn
    exact ⟨hn.1.symm, hn.2.symm⟩
  · rw [levelNext_below hr h0 hs, if_pos hc.ge, Prod.mk.injEq] at hn
    exact ⟨hn.1.symm, hn.2.symm⟩
  · rw [levelNext_above hr h0 hs, Prod.mk.injEq] at hn
    exact ⟨hn.1.symm, hn.2.symm⟩

end

/-- Settles O41, from the cases of `levelNext` at the sum of scores after the close. -/
theorem levelFallsByHoldDown : Obligations.LevelFallsByHoldDown := by
  intro w s hw _ hhold hzero
  have hn := closedDirt_levelNext (reach (w.openedAt + ms w.params.length) s) w
  refine ⟨_, levelMark (effective s.dirt.levels s.head.floor) s.dirt.level, exec_windowClose hw, ?_⟩
  rw [settle_dirt, closeWindow_dirt]
  exact ⟨rfl, rfl, rfl, rfl, (levelNext_holdDown_le hhold).trans (by decide), levelNext_falls hn,
    fun h0 hl => (levelNext_stays_zero hn h0 hl).trans (hzero h0)⟩

end Sys2Proof.Machine
end

section
/-! PROOFS. The filter of a fault entry (08): an entry judged at one scan (R145, R147, R148, R156), and the count its accumulator
makes over consecutive scans. -/

namespace Sys2Proof.Machine

/-! ### The accumulator (R145) -/

section
variable {x : Test} {elapsed seq a : Nat} {e : FaultEntry}

/-- A set test that fails makes the accumulator absent. -/
theorem filterEntry_unset (hset : x.set = false) : filterEntry x elapsed seq e = { e with acc := none } := by
  simp [filterEntry, accumulate, hset]

/-- Below the filter time the accumulator alone changes. -/
theorem filterEntry_below (hacc : accumulate x.set elapsed e.acc = some a) (ha : a < x.filter) :
    filterEntry x elapsed seq e = { e with acc := some a } := by
  simp [filterEntry, hacc, Nat.not_le.2 ha]

/-- At the filter time the entry qualifies, and the accumulator is made absent. -/
theorem filterEntry_reached (hacc : accumulate x.set elapsed e.acc = some a) (ha : x.filter ≤ a) :
    filterEntry x elapsed seq e = { qualify false seq x.value e with acc := none } := by
  simp [filterEntry, hacc, ha]

/-- The filter retires nothing (R154). -/
theorem filterEntry_keeps_latched (hl : e.latched = true) : (filterEntry x elapsed seq e).latched = true := by
  cases hacc : accumulate x.set elapsed e.acc with
  | none => simpa [filterEntry, hacc] using hl
  | some a =>
    rcases lt_or_ge a x.filter with ha | ha
    · rw [filterEntry_below hacc ha]
      exact hl
    · rw [filterEntry_reached hacc ha]
      rfl

/-! ### An entry judged at a scan (R145, R148, R156) -/

theorem judgeEntry_disabled (he : e.enabled = false) : judgeEntry x elapsed seq e = e := by
  simp [judgeEntry, he]

/-- A present condition follows the retire test (R148). -/
theorem judgeEntry_present (he : e.enabled = true) (hl : e.latched = true) (hp : e.present = true) :
    judgeEntry x elapsed seq e =
      if x.retire = true then filterEntry x elapsed seq { e with present := false } else e := by
  simp [judgeEntry, he, hl, hp]

/-- An entry that is not latched, or is latched and absent, is filtered (R145). -/
theorem judgeEntry_filtered (he : e.enabled = true) (h : e.latched = false ∨ e.present = false) :
    judgeEntry x elapsed seq e = filterEntry x elapsed seq e := by
  have hn : ¬(e.latched && e.present) = true := by rcases h with h | h <;> simp [h]
  rw [judgeEntry, if_neg (by simp [he]), if_neg hn]

theorem judgeEntry_below (he : e.enabled = true) (h : e.latched = false ∨ e.present = false)
    (hacc : accumulate x.set elapsed e.acc = some a) (ha : a < x.filter) :
    judgeEntry x elapsed seq e = { e with acc := some a } := by
  rw [judgeEntry_filtered he h, filterEntry_below hacc ha]

theorem judgeEntry_reached (he : e.enabled = true) (h : e.latched = false ∨ e.present = false)
    (hacc : accumulate x.set elapsed e.acc = some a) (ha : x.filter ≤ a) :
    judgeEntry x elapsed seq e = { qualify false seq x.value e with acc := none } := by
  rw [judgeEntry_filtered he h, filterEntry_reached hacc ha]

/-- No scan retires an entry (R148). -/
theorem judgeEntry_keeps_latched (hl : e.latched = true) : (judgeEntry x elapsed seq e).latched = true := by
  unfold judgeEntry
  split_ifs
  · exact hl
  · exact filterEntry_keeps_latched hl
  · exact hl
  · exact filterEntry_keeps_latched hl

end

/-! ### Consecutive scans (R145) -/

theorem times_eq_iterate {α : Type} (f : α → α) (n : Nat) (a : α) : times f n a = f^[n] a := by
  induction n generalizing a with
  | zero => rfl
  | succ n ih => exact ih (f a)

/-- The last of the times, taken apart from those before it. -/
theorem times_succ_apply {α : Type} (f : α → α) (n : Nat) (a : α) : times f (n + 1) a = f (times f n a) := by
  rw [times_eq_iterate, times_eq_iterate, Function.iterate_succ_apply']

section
variable {x : Test} {elapsed seq n : Nat} {e : FaultEntry}

theorem accumulate_first (hset : x.set = true) (hacc : e.acc = none) : accumulate x.set elapsed e.acc = some 0 := by
  simp [accumulate, hset, hacc]

/-- The count at the next scan; it saturates at 65,535, which no filter time is above. -/
theorem accumulate_succ (hset : x.set = true) :
    accumulate x.set elapsed (some (n * elapsed)) = some (min 65535 ((n + 1) * elapsed)) := by
  simp [accumulate, hset, Nat.succ_mul]

/-- While the count is below the filter time, the scans leave `elapsed` for each but the first of them, and nothing else. -/
theorem times_judgeEntry_below (hf : x.filter ≤ 65535) (he : e.enabled = true) (hl : e.latched = false)
    (hacc : e.acc = none) (hset : x.set = true) (hn : n * elapsed < x.filter) :
    times (judgeEntry x elapsed seq) (n + 1) e = { e with acc := some (n * elapsed) } := by
  induction n with
  | zero =>
    rw [Nat.zero_mul] at hn ⊢
    exact judgeEntry_below he (.inl hl) (accumulate_first hset hacc) hn
  | succ n ih =>
    have hle : n * elapsed ≤ (n + 1) * elapsed := Nat.mul_le_mul_right _ n.le_succ
    have hmin : min 65535 ((n + 1) * elapsed) = (n + 1) * elapsed := Nat.min_eq_right (by omega)
    have hacc' := accumulate_succ (elapsed := elapsed) (n := n) hset
    rw [hmin] at hacc'
    rw [times_succ_apply, ih (hle.trans_lt hn)]
    exact judgeEntry_below (e := { e with acc := some (n * elapsed) }) he (.inl hl) hacc' hn

/-- The scan at which the count reaches the filter time latches the entry, and the scans after it leave it latched. -/
theorem times_judgeEntry_latched (hf : x.filter ≤ 65535) (he : e.enabled = true) (hl : e.latched = false)
    (hacc : e.acc = none) (hset : x.set = true) (hn : x.filter ≤ n * elapsed) :
    (times (judgeEntry x elapsed seq) (n + 1) e).latched = true := by
  induction n with
  | zero =>
    rw [Nat.zero_mul] at hn
    rw [times_succ_apply, times, judgeEntry_reached he (.inl hl) (accumulate_first hset hacc) hn]
    rfl
  | succ n ih =>
    rw [times_succ_apply]
    rcases lt_or_ge (n * elapsed) x.filter with hlt | hge
    · rw [times_judgeEntry_below hf he hl hacc hset hlt,
        judgeEntry_reached (e := { e with acc := some (n * elapsed) }) he (.inl hl) (accumulate_succ hset)
          (le_min hf hn)]
      rfl
    · exact judgeEntry_keeps_latched (ih hge)

end

/-- Settles O49: the four cases of an entry at a scan, and the run of scans by induction on their number. -/
theorem faultFilterCounts : Obligations.FaultFilterCounts := by
  intro x elapsed seq e hf
  refine ⟨judgeEntry_disabled, fun he hl hp => ⟨fun hr => ?_, fun hr hset => ?_⟩,
    fun he hfree => ⟨fun hset => ?_, fun a hset ha => ?_⟩,
    fun he hl hacc hset n => ⟨fun hn => ?_, times_judgeEntry_latched hf he hl hacc hset⟩⟩
  · rw [judgeEntry_present he hl hp, if_neg (by simp [hr])]
  · rw [judgeEntry_present he hl hp, if_pos hr, filterEntry_unset hset]
  · rw [judgeEntry_filtered he hfree, filterEntry_unset hset]
  · have hacc : accumulate x.set elapsed e.acc = some a := by
      rw [ha, hset]
      cases e.acc <;> rfl
    exact ⟨judgeEntry_below he hfree hacc, judgeEntry_reached he hfree hacc⟩
  · rw [times_judgeEntry_below hf he hl hacc hset hn]
    exact ⟨hl, rfl⟩

end Sys2Proof.Machine
end
